-- ==== Sys2Proof/Word.lean ====
section
/-! DEFINITION. The word types of the engine (00_scope.md R6, R7): every value is unsigned. -/

namespace Sys2Proof

/-- An input byte, a table index, a cause code or a character code: 8 bits (R6). -/
abbrev Byte := BitVec 8

/-- A register half, a table entry, a DATA word or STATUS: 32 bits (R6). -/
abbrev Word := BitVec 32

/-- The register's 64-bit view `REG64` (00_scope.md R10). -/
abbrev Long := BitVec 64

/-- A command word: 16 bits (30_encoding.md R51). -/
abbrev CommandWord := BitVec 16

/-- A hex digit's value or a digit position: 4 bits (30_encoding.md R52). -/
abbrev Nibble := BitVec 4

end Sys2Proof
end

