-- ==== Sys2Proof/Syntax.lean ====
section
/-! DEFINITION. The twelve commands (30_encoding.md R54), one constructor per row of spec/opcode_table.json, and the
source line of an assembler (R61). Each operand has the exact width of its form (R52), so every `Instr` is one of the
1,047 legal commands and no term of it is ill-formed. -/

namespace Sys2Proof

/-- A command with its operand (30_encoding.md R52, R54). -/
inductive Instr where
  | nop                     -- R82
  | init                    -- R83
  | upd (b : Byte)          -- R85, form BYTE
  | fin                     -- R88
  | failio (code : Byte)    -- R89, form CODE
  | failinv                 -- R90
  | rdhi                    -- R100
  | rdlo                    -- R101
  | rdhex (k : Nibble)      -- R103, form DIGIT
  | rdth (i : Byte)         -- R104, form IDX
  | rdtl (i : Byte)         -- R105, form IDX
  | rdst                    -- R106
  deriving DecidableEq, Repr

/-- The mnemonics of R54, apart from any operand. -/
inductive Mnemonic where
  | nop | init | upd | fin | failio | failinv | rdhi | rdlo | rdhex | rdth | rdtl | rdst
  deriving DecidableEq, Repr

/-- The operand forms of R52. -/
inductive Form where
  | byte | code | idx | digit | none
  deriving DecidableEq, Repr

/-- One command of assembler source: a mnemonic and at most one number (R61). The number is as written, before any
check of its range. -/
structure AsmLine where
  mnemonic : Mnemonic
  operand  : Option Nat
  deriving DecidableEq, Repr

end Sys2Proof
end

