-- ==== Sys2Proof/WellFormed.lean ====
section
/-! DEFINITION. The checks of 30_encoding.md R61 on a source line: an operand outside its form's legal values (R52), an
operand on a NONE form and a missing operand on any other form are refused. An `Instr` needs no check: its operands
have their forms' exact widths (Syntax.lean). -/

namespace Sys2Proof

/-- The operand form of each command (R52, R54). -/
def Mnemonic.form : Mnemonic → Form
  | .upd => .byte
  | .failio => .code
  | .rdth => .idx
  | .rdtl => .idx
  | .rdhex => .digit
  | .nop => .none
  | .init => .none
  | .fin => .none
  | .failinv => .none
  | .rdhi => .none
  | .rdlo => .none
  | .rdst => .none

/-- The legal operands of a form (R52): a number below 256, a digit position below 16, or nothing. -/
def Form.admits : Form → Option Nat → Bool
  | .byte, some n => decide (n < 256)
  | .code, some n => decide (n < 256)
  | .idx, some n => decide (n < 256)
  | .digit, some n => decide (n < 16)
  | .none, some _ => false
  | .byte, Option.none => false
  | .code, Option.none => false
  | .idx, Option.none => false
  | .digit, Option.none => false
  | .none, Option.none => true

/-- The line is one the assembler accepts (R61). -/
def AsmLine.wellFormed (l : AsmLine) : Bool :=
  l.mnemonic.form.admits l.operand

end Sys2Proof
end

