-- ==== Sys2Proof/Decode.lean ====
section
/-! DEFINITION. The command word (30_encoding.md R51), its legality (R55), a total decoder that names what is wrong with
an illegal word (R56 to R60), the encoder, and the opcode map as rows of mask and match (R54). -/

namespace Sys2Proof

/-- `OP = c[15:12]` (R51). -/
def opField (c : CommandWord) : Nibble := c.extractLsb' 12 4

/-- `RSV = c[11:8]` (R51). -/
def rsvField (c : CommandWord) : Nibble := c.extractLsb' 8 4

/-- `ARG = c[7:0]` (R51). -/
def argField (c : CommandWord) : Byte := c.extractLsb' 0 8

/-- `k = ARG[3:0]`, the operand of form DIGIT (R52). -/
def digitOperand (arg : Byte) : Nibble := arg.extractLsb' 0 4

/-- `ARG[7:4]`, which form DIGIT requires to be 0 (R52). -/
def digitUpper (arg : Byte) : Nibble := arg.extractLsb' 4 4

/-- The legality predicate, written from R55 apart from the decoder. -/
def legal (c : CommandWord) : Bool :=
  c.extractLsb' 8 4 == 0#4
    && decide (c.extractLsb' 12 4 ≤ 0xB#4)
    && ((c.extractLsb' 12 4 == 0x2#4 || c.extractLsb' 12 4 == 0x4#4 || c.extractLsb' 12 4 == 0x9#4
          || c.extractLsb' 12 4 == 0xA#4)
        || (c.extractLsb' 12 4 == 0x8#4 && c.extractLsb' 4 4 == 0#4)
        || ((c.extractLsb' 12 4 == 0x0#4 || c.extractLsb' 12 4 == 0x1#4 || c.extractLsb' 12 4 == 0x3#4
              || c.extractLsb' 12 4 == 0x5#4 || c.extractLsb' 12 4 == 0x6#4 || c.extractLsb' 12 4 == 0x7#4
              || c.extractLsb' 12 4 == 0xB#4)
            && c.extractLsb' 0 8 == 0#8))

/-- Why a word is illegal (R121). -/
inductive IllegalReason where
  /-- RSV is not 0 (R57). -/
  | reservedBits
  /-- OP is 0xC, 0xD, 0xE or 0xF (R56). -/
  | reservedOp
  /-- A NONE-form command with a nonzero ARG, or RDHEX with a nonzero ARG[7:4] (R58). -/
  | operandBits
  deriving DecidableEq, Repr

/-- What a word is (R60): exactly one legal command, or illegal. -/
inductive Decoded where
  | command (i : Instr)
  | illegal (why : IllegalReason)
  deriving DecidableEq, Repr

/-- Form NONE: ARG must be 0x00 (R52, R58). -/
def noneForm (i : Instr) (arg : Byte) : Decoded :=
  if arg = 0#8 then .command i else .illegal .operandBits

/-- Form DIGIT: ARG[7:4] must be 0 (R52, R58). -/
def digitForm (i : Nibble → Instr) (arg : Byte) : Decoded :=
  if digitUpper arg = 0#4 then .command (i (digitOperand arg)) else .illegal .operandBits

/-- The opcode map (R54) on OP and ARG, for a word whose RSV is 0. -/
def decodeOp (op : Nibble) (arg : Byte) : Decoded :=
  match op.toNat with
  | 0x0 => noneForm .nop arg
  | 0x1 => noneForm .init arg
  | 0x2 => .command (.upd arg)
  | 0x3 => noneForm .fin arg
  | 0x4 => .command (.failio arg)
  | 0x5 => noneForm .failinv arg
  | 0x6 => noneForm .rdhi arg
  | 0x7 => noneForm .rdlo arg
  | 0x8 => digitForm .rdhex arg
  | 0x9 => .command (.rdth arg)
  | 0xA => .command (.rdtl arg)
  | 0xB => noneForm .rdst arg
  | _ => .illegal .reservedOp

/-- Decoding is total: every 16-bit word is one legal command or illegal (R60). -/
def decode (c : CommandWord) : Decoded :=
  if rsvField c = 0#4 then decodeOp (opField c) (argField c) else .illegal .reservedBits

/-- The word `OP ++ 0 ++ ARG` (R51). -/
def commandWord (op : Nibble) (arg : Byte) : CommandWord := op ++ 0#4 ++ arg

/-- The command's name without its operand (R54). -/
def Instr.mnemonic : Instr → Mnemonic
  | .nop => .nop
  | .init => .init
  | .upd _ => .upd
  | .fin => .fin
  | .failio _ => .failio
  | .failinv => .failinv
  | .rdhi => .rdhi
  | .rdlo => .rdlo
  | .rdhex _ => .rdhex
  | .rdth _ => .rdth
  | .rdtl _ => .rdtl
  | .rdst => .rdst

/-- The value of OP for each mnemonic (R54). -/
def Mnemonic.opcode : Mnemonic → Nibble
  | .nop => 0x0#4
  | .init => 0x1#4
  | .upd => 0x2#4
  | .fin => 0x3#4
  | .failio => 0x4#4
  | .failinv => 0x5#4
  | .rdhi => 0x6#4
  | .rdlo => 0x7#4
  | .rdhex => 0x8#4
  | .rdth => 0x9#4
  | .rdtl => 0xA#4
  | .rdst => 0xB#4

/-- The value of ARG for each command (R52): 0x00 where the form is NONE. -/
def Instr.arg : Instr → Byte
  | .nop => 0#8
  | .init => 0#8
  | .upd b => b
  | .fin => 0#8
  | .failio code => code
  | .failinv => 0#8
  | .rdhi => 0#8
  | .rdlo => 0#8
  | .rdhex k => 0#4 ++ k
  | .rdth i => i
  | .rdtl i => i
  | .rdst => 0#8

/-- The word of a command (R51, R54). -/
def encode (i : Instr) : CommandWord := commandWord i.mnemonic.opcode i.arg

/-- A row of the opcode map: the words `c` with `c & mask = pattern` (spec/opcode_table.json). -/
structure OpcodeRow where
  mnemonic : Mnemonic
  pattern  : CommandWord
  mask     : CommandWord
  deriving DecidableEq, Repr

/-- The word is one of the row's. -/
def OpcodeRow.covers (r : OpcodeRow) (c : CommandWord) : Bool := c &&& r.mask == r.pattern

/-- spec/opcode_table.json, row for row. -/
def opcodeTable : List OpcodeRow :=
  [ ⟨.nop, 0x0000#16, 0xFFFF#16⟩,
    ⟨.init, 0x1000#16, 0xFFFF#16⟩,
    ⟨.upd, 0x2000#16, 0xFF00#16⟩,
    ⟨.fin, 0x3000#16, 0xFFFF#16⟩,
    ⟨.failio, 0x4000#16, 0xFF00#16⟩,
    ⟨.failinv, 0x5000#16, 0xFFFF#16⟩,
    ⟨.rdhi, 0x6000#16, 0xFFFF#16⟩,
    ⟨.rdlo, 0x7000#16, 0xFFFF#16⟩,
    ⟨.rdhex, 0x8000#16, 0xFFF0#16⟩,
    ⟨.rdth, 0x9000#16, 0xFF00#16⟩,
    ⟨.rdtl, 0xA000#16, 0xFF00#16⟩,
    ⟨.rdst, 0xB000#16, 0xFFFF#16⟩ ]

/-- The command an opcode-table word decodes to. A command is one 16-bit word (R51), so a number that does not fit in
16 bits, or a row of more than 16 bits, is no command. Log entry 14. -/
def decodeTableWord (nbits w : Nat) : Option Instr :=
  if nbits ≤ 16 ∧ w < 65536 then
    match decode (BitVec.ofNat 16 w) with
    | .command i => some i
    | .illegal _ => none
  else none

end Sys2Proof
end

