-- ==== Sys2Proof/Machine/State.lean ====
section
/-! DEFINITION. The state of one engine instance (10_state.md R13 to R31), with the host's stream of events and the
host's record of responses, which are the model's own (log entries 2 and 3). Plain data. -/

namespace Sys2Proof.Machine

/-- `ST`, the lifecycle state (10_state.md R20). -/
inductive Lifecycle where
  /-- 0: no computation started since reset. -/
  | idle
  /-- 1: a computation is open. -/
  | active
  /-- 2: the register holds a readable result. -/
  | done
  /-- 3: the computation failed or a command was rejected. -/
  | error
  deriving DecidableEq, Repr

/-- `ERR`, the error code (10_state.md R21, 60_exceptions.md R117). Codes 5 to 7 are never produced and have no
constructor (93_implementation_defined.md S4; log entry 6). -/
inductive ErrCode where
  /-- 0, NONE. -/
  | noError
  /-- 1, raised by FAILINV. -/
  | invalidInput
  /-- 2, raised by FAILIO. -/
  | ioFailure
  /-- 3, raised by UPD or FIN in IDLE or DONE. -/
  | sequence
  /-- 4, raised by an illegal command word. -/
  | illegal
  deriving DecidableEq, Repr

/-- The response of a command: the OK bit and the DATA word (30_encoding.md R53). -/
structure Response where
  ok   : Bool
  data : Word
  deriving DecidableEq, Repr

/-- What reaches an instance from outside, between two commands: a command word (30_encoding.md R50) or a reset
(70_reset_and_hazards.md R136). -/
inductive HostEvent where
  | command (word : CommandWord)
  | reset
  deriving DecidableEq, Repr

/-- One instance, the events the host has yet to send it and the responses it has given. -/
structure State where
  /-- `HI`, bits 63:32 of the CRC register (R13). -/
  hi        : Word
  /-- `LO`, bits 31:0 of the CRC register (R13). -/
  lo        : Word
  /-- `ST` (R20). -/
  st        : Lifecycle
  /-- `ERR` (R21). -/
  err       : ErrCode
  /-- `CAUSE` (R22). -/
  cause     : Byte
  /-- The model's own: the host's stream, next event first (log entry 2). -/
  events    : List HostEvent
  /-- The model's own: every response given, oldest first; no command reads it (R29; log entry 3). -/
  responses : List Response
  deriving DecidableEq, Repr

/-- What stops the machine: nothing does. Every command completes and responds in every state
(70_reset_and_hazards.md R145), and the spec's faults are next states (60_exceptions.md R124), so this type has no
constructor. Safe: nothing can be raised. -/
inductive Fault where
  deriving DecidableEq, Repr

/-- Why a step is refused. -/
inductive Refusal where
  /-- Raised only by an arm of `exec` whose instruction has no meaning yet; no arm is one. Safe. -/
  | notModelled (mnemonic : String)
  /-- Raised only by `System.react`, for a command addressed to an instance the system does not have: 60_exceptions.md
  R134 gives no such instance. Never raised by `step`. Safe: the system stops where the spec has no behaviour. -/
  | noSuchInstance
  deriving DecidableEq, Repr

/-- The answer of a step of one instance. -/
abbrev Answer := Host.Outcome State Fault Refusal

/-- The machine right after reset (10_state.md R31, 70_reset_and_hazards.md R137): it waits for a command, and the host
has sent nothing. -/
def State.reset : State where
  hi := 0#32
  lo := 0#32
  st := .idle
  err := .noError
  cause := 0#8
  events := []
  responses := []

end Sys2Proof.Machine
end

