-- ==== Sys2Proof/Machine/Ops.lean ====
section
/-! DEFINITION. The operations every meaning is made of: giving the response, entering the error state, opening a
computation (the one command that leaves ERROR), writing the register, and reset. -/

namespace Sys2Proof.Machine

/-- `resp(ok, data)`: the command's one response (30_encoding.md R53). -/
def respond (ok : Bool) (data : Word) (s : State) : State :=
  { s with responses := s.responses ++ [⟨ok, data⟩] }

/-- `raise Fault(code, cause)`, the block's only trap entry (60_exceptions.md R124). In ERROR it changes nothing; the
register is not written, nothing is saved and control does not transfer. -/
def raiseFault (code : ErrCode) (cause : Byte) (s : State) : State :=
  match s.st with
  | .error => s
  | .idle | .active | .done => { s with st := .error, err := code, cause := cause }

/-- INIT's effect, and the only command's way out of ERROR (41_checksum.md R83, 60_exceptions.md R127). -/
def openComputation (s : State) : State :=
  { s with hi := 0#32, lo := 0#32, st := .active, err := .noError, cause := 0#8 }

/-- Write both halves of the register at once (20_memory.md R40). -/
def setRegister (r : Word × Word) (s : State) : State := { s with hi := r.1, lo := r.2 }

/-- Close the computation with a result (41_checksum.md R88). -/
def finish (s : State) : State := { s with st := .done }

/-- Reset of one instance: the values of 10_state.md R31, and no response (70_reset_and_hazards.md R137). -/
def resetBlock (s : State) : State :=
  { s with hi := State.reset.hi, lo := State.reset.lo, st := State.reset.st, err := State.reset.err,
           cause := State.reset.cause }

/-- A legal command that ERROR ignores: no change, response `(0, 0)` (60_exceptions.md R126). -/
def ignored (s : State) : Answer := .next (respond false 0#32 s)

/-- A command out of sequence: SEQUENCE is raised, response `(0, 0)` (60_exceptions.md R118). -/
def outOfSequence (s : State) : Answer := .next (respond false 0#32 (raiseFault .sequence 0#8 s))

/-- A read of the result: the data in DONE, `(0, 0)` elsewhere, no state change (42_readout.md R111). -/
def resultRead (data : Word) (s : State) : Answer :=
  match s.st with
  | .done => .next (respond true data s)
  | .idle | .active | .error => .next (respond false 0#32 s)

/-- A read that every state answers (42_readout.md R104 to R106). -/
def openRead (data : Word) (s : State) : Answer := .next (respond true data s)

/-- A failure the host reports: the fault is raised and the command itself responds OK; ignored in ERROR
(41_checksum.md R89, R90). -/
def reportFailure (code : ErrCode) (cause : Byte) (s : State) : Answer :=
  match s.st with
  | .error => ignored s
  | .idle | .active | .done => .next (respond true 0#32 (raiseFault code cause s))

/-- An illegal word: ILLEGAL is raised (in ERROR that changes nothing), response `(0, 0)`, no other effect
(41_checksum.md R79, 60_exceptions.md R121). -/
def illegalWord (s : State) : Answer := .next (respond false 0#32 (raiseFault .illegal 0#8 s))

end Sys2Proof.Machine
end

