-- ==== Sys2Proof/Machine/Operands.lean ====
section
/-! DEFINITION. The parts of wider values that commands read: the 64-bit view (00_scope.md R10), the digit positions of
the result (42_readout.md R103) and the character codes (R102). The operand forms of the command word itself are
taken apart in Decode.lean (30_encoding.md R52). -/

namespace Sys2Proof.Machine

/-- `REG64 = HI ++ LO` (00_scope.md R10). -/
def reg64 (hi lo : Word) : Long := hi ++ lo

/-- The high and low halves of a 64-bit value (00_scope.md R10). -/
def halves (x : Long) : Word × Word := (x.extractLsb' 32 32, x.extractLsb' 0 32)

/-- Digit `k` of a 64-bit value, `x[63 - 4k : 60 - 4k]`: digit 0 is the most significant (R103). -/
def hexDigit (x : Long) (k : Nibble) : Nibble := x.extractLsb' (60 - 4 * k.toNat) 4

/-- `HEXCHAR(n)`, the ASCII code of the uppercase hexadecimal digit (R102; log entry 13). -/
def hexChar (n : Nibble) : Byte :=
  if n ≤ 9#4 then 0x30#8 + n.setWidth 8 else 0x41#8 + (n.setWidth 8 - 10#8)

/-- The character of an 8-bit code. -/
def charOf (code : Byte) : Char := Char.ofNat code.toNat

end Sys2Proof.Machine
end

