-- ==== Sys2Proof/Machine/ShiftRegister.lean ====
section
/-! DEFINITION. The one-bit polynomial shift and the constant tables built from it (40_shift_register.md). -/

namespace Sys2Proof.Machine

/-- `POLY_REVERSED_HIGH` (R66). -/
def polyReversedHigh : Word := 0xD8000000#32

/-- `BIT32_MSB` (R66). -/
def bit32Msb : Word := 0x80000000#32

/-- `SHIFT1` on the split register, in the source's order of steps (R68). -/
def shift1 (r : Word × Word) : Word × Word :=
  let carry := r.2.getLsbD 0
  let lo := r.2 >>> 1
  let lo := if r.1.getLsbD 0 then lo ^^^ bit32Msb else lo
  let hi := r.1 >>> 1
  let hi := if carry then hi ^^^ polyReversedHigh else hi
  (hi, lo)

/-- `SHIFT1_64`, the same shift on one 64-bit value (R69). -/
def shift1Long (x : Long) : Long :=
  if x.getLsbD 0 then (x >>> 1) ^^^ 0xD800000000000000#64 else x >>> 1

/-- `n` applications of a step. -/
def iterate {α : Type} (f : α → α) : Nat → α → α
  | 0, x => x
  | n + 1, x => iterate f n (f x)

/-- `TENTRY(i)`: eight shifts from `(0, i)` (R71). -/
def tableEntry (i : Byte) : Word × Word := iterate shift1 8 (0#32, i.setWidth 32)

/-- `TH[i]` (10_state.md R17; R72). -/
def tableHigh (i : Byte) : Word := (tableEntry i).1

/-- `TL[i]` (10_state.md R17; R72). -/
def tableLow (i : Byte) : Word := (tableEntry i).2

/-- `T64[i] = TH[i] ++ TL[i]` (41_checksum.md R86). -/
def tableLong (i : Byte) : Long := tableHigh i ++ tableLow i

end Sys2Proof.Machine
end

