-- ==== Sys2Proof/Machine/Update.lean ====
section
/-! DEFINITION. The byte update and the fold (41_checksum.md R84, R86, R91). -/

namespace Sys2Proof.Machine

/-- `UPDATE(hi, lo, b)`, line for line (R84; the code of the source governs its comment, 90_conflicts.md C4). -/
def update (r : Word × Word) (b : Byte) : Word × Word :=
  let shr := (r.1 &&& 0xFF#32) <<< 24
  let newHighPartial := r.1 >>> 8
  let newLowPartial := (r.2 >>> 8) ||| shr
  let index := ((r.2 ^^^ b.setWidth 32) &&& 0xFF#32).setWidth 8
  (newHighPartial ^^^ tableHigh index, newLowPartial ^^^ tableLow index)

/-- `UPDATE_64(x, b)`, the same update on one 64-bit value (R86). -/
def updateLong (x : Long) (b : Byte) : Long := (x >>> 8) ^^^ tableLong (x.setWidth 8 ^^^ b)

/-- `FOLD(r, s)`: the bytes folded one at a time, in order (R91). -/
def fold (r : Word × Word) : List Byte → Word × Word
  | [] => r
  | b :: s => fold (update r b) s

end Sys2Proof.Machine
end

