-- ==== Sys2Proof/Machine/Checksum.lean ====
section
/-! DEFINITION. The commands that start, feed, finish and fail a computation (41_checksum.md R82 to R90): the rows NOP to
FAILINV of the dispatch matrix (R81). -/

namespace Sys2Proof.Machine

/-- NOP (R82): nothing, response `(1, 0)`, in every state. -/
def execNop (s : State) : Answer := .next (respond true 0#32 s)

/-- INIT (R83): a fresh computation, in every state. -/
def execInit (s : State) : Answer := .next (respond true 0#32 (openComputation s))

/-- UPD (R85): fold the byte in ACTIVE; ignored in ERROR; SEQUENCE in IDLE and DONE. -/
def execUpd (b : Byte) (s : State) : Answer :=
  match s.st with
  | .active => .next (respond true 0#32 (setRegister (update (s.hi, s.lo) b) s))
  | .error => ignored s
  | .idle | .done => outOfSequence s

/-- FIN (R88): the end of input. -/
def execFin (s : State) : Answer :=
  match s.st with
  | .active => .next (respond true 0#32 (finish s))
  | .error => ignored s
  | .idle | .done => outOfSequence s

/-- FAILIO (R89): IO_FAILURE with the code as its cause. -/
def execFailio (code : Byte) (s : State) : Answer := reportFailure .ioFailure code s

/-- FAILINV (R90): INVALID_INPUT. -/
def execFailinv (s : State) : Answer := reportFailure .invalidInput 0#8 s

end Sys2Proof.Machine
end

