-- ==== Sys2Proof/Machine/Flags.lean ====
section
/-! DEFINITION. The status fields as software sees them: the codes of ST and ERR, and STATUS (10_state.md R20 to R23).
The block has no condition codes (R26). -/

namespace Sys2Proof.Machine

/-- The 2-bit value of ST (R20). -/
def Lifecycle.code : Lifecycle → BitVec 2
  | .idle => 0#2
  | .active => 1#2
  | .done => 2#2
  | .error => 3#2

/-- The 3-bit value of ERR (60_exceptions.md R117). -/
def ErrCode.code : ErrCode → BitVec 3
  | .noError => 0#3
  | .invalidInput => 1#3
  | .ioFailure => 2#3
  | .sequence => 3#3
  | .illegal => 4#3

/-- `STATUS = zext_32(CAUSE ++ 0b000 ++ ERR ++ ST)` (R23). -/
def status (s : State) : Word := (s.cause ++ 0#3 ++ s.err.code ++ s.st.code).setWidth 32

end Sys2Proof.Machine
end

