-- ==== Sys2Proof/Machine/Readout.lean ====
section
/-! DEFINITION. The read commands (42_readout.md R100 to R106): the rows RDHI to RDST of the dispatch matrix
(41_checksum.md R81), and the source's formatting (R108). -/

namespace Sys2Proof.Machine

/-- RDHI (R100). -/
def execRdhi (s : State) : Answer := resultRead s.hi s

/-- RDLO (R101). -/
def execRdlo (s : State) : Answer := resultRead s.lo s

/-- RDHEX (R103): the character code of digit `k` of the result. -/
def execRdhex (k : Nibble) (s : State) : Answer :=
  resultRead ((hexChar (hexDigit (reg64 s.hi s.lo) k)).setWidth 32) s

/-- RDTH (R104). -/
def execRdth (i : Byte) (s : State) : Answer := openRead (tableHigh i) s

/-- RDTL (R105). -/
def execRdtl (i : Byte) (s : State) : Answer := openRead (tableLow i) s

/-- RDST (R106): STATUS, which the read does not clear. -/
def execRdst (s : State) : Answer := openRead (status s) s

/-- The digit positions in printing order (30_encoding.md R64). -/
def digitPositions : List Nibble := (List.range 16).map (BitVec.ofNat 4)

/-- `FORMAT(hi, lo)`: 16 uppercase hexadecimal characters, high word first (R108). -/
def format (hi lo : Word) : List Char :=
  digitPositions.map fun k => charOf (hexChar (hexDigit (reg64 hi lo) k))

end Sys2Proof.Machine
end

