-- ==== Sys2Proof/Machine/Dispatch.lean ====
section
/-! DEFINITION. One arm per command: the dispatch of 41_checksum.md R79 and R81. -/

namespace Sys2Proof.Machine

def exec (i : Instr) (s : State) : Host.Outcome State Fault Refusal :=
  match i with
  | .nop => Sys2Proof.Machine.execNop s
  | .init => Sys2Proof.Machine.execInit s
  | .upd b => Sys2Proof.Machine.execUpd b s
  | .fin => Sys2Proof.Machine.execFin s
  | .failio code => Sys2Proof.Machine.execFailio code s
  | .failinv => Sys2Proof.Machine.execFailinv s
  | .rdhi => Sys2Proof.Machine.execRdhi s
  | .rdlo => Sys2Proof.Machine.execRdlo s
  | .rdhex k => Sys2Proof.Machine.execRdhex k s
  | .rdth j => Sys2Proof.Machine.execRdth j s
  | .rdtl j => Sys2Proof.Machine.execRdtl j s
  | .rdst => Sys2Proof.Machine.execRdst s

end Sys2Proof.Machine
end

