-- ==== Sys2Proof/Machine/Transaction.lean ====
section
/-! DEFINITION. The reaction of one instance to one event from outside: the step of 41_checksum.md R79 on a command word,
and a reset (70_reset_and_hazards.md R136, R137). -/

namespace Sys2Proof.Machine

/-- `step(state, c)` of R79: legality first (60_exceptions.md R122), then the dispatch. -/
def runCommand (c : CommandWord) (s : State) : Answer :=
  match decode c with
  | .command i => exec i s
  | .illegal _ => illegalWord s

/-- What an instance does on an event. -/
def react (e : HostEvent) (s : State) : Answer :=
  match e with
  | .command c => runCommand c s
  | .reset => .next (resetBlock s)

/-- Take the next event off the host's stream and react to it; with no event the instance waits and holds its state
(70_reset_and_hazards.md R137, 60_exceptions.md R132; log entry 2). -/
def takeEvent (s : State) : Answer :=
  match s.events with
  | [] => .next s
  | e :: rest => react e { s with events := rest }

/-- The state in which the host's next event is a command word, before whatever it had to send. -/
def offer (c : CommandWord) (s : State) : State := { s with events := .command c :: s.events }

end Sys2Proof.Machine
end

