-- ==== Sys2Proof/Machine/Step.lean ====
section
/-! DEFINITION. One step of one instance: it takes the host's next event (30_encoding.md R50). -/

namespace Sys2Proof.Machine

/-- One event, to completion (30_encoding.md R50, 20_memory.md R40). -/
def step (s : State) : Host.Outcome State Fault Refusal := takeEvent s

/-- The state whose next event is the opcode-table word `w`: a command is one 16-bit word (30_encoding.md R51), which
comes from the host (10_state.md R25), so it goes to the front of the host's stream. Log entries 2 and 14. -/
def State.withFetchWord (s : State) (_nbits w : Nat) : State := offer (BitVec.ofNat 16 w) s

end Sys2Proof.Machine
end

