-- ==== Sys2Proof/Machine/Assembler.lean ====
section
/-! DEFINITION. The assembler of 30_encoding.md R61: a source line, its checks (WellFormed.lean) and its command. What R61
leaves open of the text (blanks, capitals, capital hex digits) is log entry 11. -/

namespace Sys2Proof.Machine

/-- The command of a mnemonic and its number, once the line has passed its checks. -/
def commandOf (m : Mnemonic) (n : Nat) : Instr :=
  match m with
  | .nop => .nop
  | .init => .init
  | .upd => .upd (BitVec.ofNat 8 n)
  | .fin => .fin
  | .failio => .failio (BitVec.ofNat 8 n)
  | .failinv => .failinv
  | .rdhi => .rdhi
  | .rdlo => .rdlo
  | .rdhex => .rdhex (BitVec.ofNat 4 n)
  | .rdth => .rdth (BitVec.ofNat 8 n)
  | .rdtl => .rdtl (BitVec.ofNat 8 n)
  | .rdst => .rdst

/-- Assemble a line: refused unless its operand is one its form admits (R61). -/
def assemble (l : AsmLine) : Option Instr :=
  if l.wellFormed then some (commandOf l.mnemonic (l.operand.getD 0)) else none

/-- The line that stands for a command (R61). -/
def disassemble (i : Instr) : AsmLine :=
  ⟨i.mnemonic, if i.mnemonic.form = .none then none else some i.arg.toNat⟩

/-- The mnemonics as R54 spells them. -/
def mnemonicNames : List (List Char × Mnemonic) :=
  [ (['N', 'O', 'P'], .nop),
    (['I', 'N', 'I', 'T'], .init),
    (['U', 'P', 'D'], .upd),
    (['F', 'I', 'N'], .fin),
    (['F', 'A', 'I', 'L', 'I', 'O'], .failio),
    (['F', 'A', 'I', 'L', 'I', 'N', 'V'], .failinv),
    (['R', 'D', 'H', 'I'], .rdhi),
    (['R', 'D', 'L', 'O'], .rdlo),
    (['R', 'D', 'H', 'E', 'X'], .rdhex),
    (['R', 'D', 'T', 'H'], .rdth),
    (['R', 'D', 'T', 'L'], .rdtl),
    (['R', 'D', 'S', 'T'], .rdst) ]

/-- The mnemonic a token spells. -/
def mnemonicOf (token : List Char) : Option Mnemonic := mnemonicNames.lookup token

/-- The value of a digit character in a base up to 16, capitals or not. -/
def digitValue (base : Nat) (c : Char) : Option Nat :=
  let n := c.toNat
  let v :=
    if 48 ≤ n ∧ n ≤ 57 then n - 48
    else if 65 ≤ n ∧ n ≤ 70 then n - 55
    else if 97 ≤ n ∧ n ≤ 102 then n - 87
    else base
  if v < base then some v else none

/-- The number a run of digits writes, after the value read so far. -/
def readDigits (base : Nat) : Nat → List Char → Option Nat
  | acc, [] => some acc
  | acc, c :: rest =>
    match digitValue base c with
    | none => none
    | some d => readDigits base (base * acc + d) rest

/-- A number in hex with `0x` or in decimal (R61). -/
def readNumber : List Char → Option Nat
  | '0' :: 'x' :: c :: rest => readDigits 16 0 (c :: rest)
  | c :: rest => readDigits 10 0 (c :: rest)
  | [] => none

/-- A blank between tokens. -/
def isBlank (c : Char) : Bool := c == ' ' || c == '\t'

/-- The line without its comment, which a `;` starts (R61). -/
def dropComment (line : List Char) : List Char := line.takeWhile (· != ';')

/-- The tokens of a line: its runs of characters that are not blanks. The first argument is the token being read. -/
def tokensFrom : List Char → List Char → List (List Char)
  | [], [] => []
  | c :: token, [] => [c :: token]
  | token, c :: rest =>
    if isBlank c then
      match token with
      | [] => tokensFrom [] rest
      | _ :: _ => token :: tokensFrom [] rest
    else tokensFrom (token ++ [c]) rest

/-- What a line of source text gives. -/
inductive AsmResult where
  /-- Nothing on the line but blanks or a comment. -/
  | blank
  | command (i : Instr)
  /-- The assembler refuses the line (R61). -/
  | refused
  deriving DecidableEq, Repr

/-- The line of source a list of tokens makes. -/
def lineOf (tokens : List (List Char)) : Option AsmLine :=
  match tokens with
  | [m] => (mnemonicOf m).map fun m => ⟨m, none⟩
  | [m, n] =>
    match mnemonicOf m, readNumber n with
    | some m, some n => some ⟨m, some n⟩
    | _, _ => none
  | _ => none

/-- Assemble one line of text (R61). -/
def assembleText (line : List Char) : AsmResult :=
  match tokensFrom [] (dropComment line) with
  | [] => .blank
  | m :: rest =>
    match (lineOf (m :: rest)).bind assemble with
    | none => .refused
    | some i => .command i

end Sys2Proof.Machine
end

