-- ==== Sys2Proof/Config.lean ====
section
/-! DEFINITION. What the spec leaves to the platform or the host: the open parameters of 00_scope.md R6.
`N_INSTANCES` is an argument of `Machine.System.reset`; `HANDSHAKE` carries no value a rule depends on; the one
parameter that is a value is `CAUSE_MAP`. -/

namespace Sys2Proof

/-- `CAUSE_MAP` (00_scope.md R6, 60_exceptions.md R116, D12 OPEN): the host's description of an 8-bit IoFailure cause
code. It has no body: nothing can be proved of any description. Log entry 10. -/
opaque Config.causeMap : Byte → String

end Sys2Proof
end

