-- ==== Sys2Proof/Machine/Protocol.lean ====
section
/-! DEFINITION. The host's side of a computation: the pseudo-instructions COMPUTE, RESULT and FORMAT
(30_encoding.md R62 to R64; 60_exceptions.md R128; 70_reset_and_hazards.md R141). They expand to commands and add no
behaviour of the block. -/

namespace Sys2Proof.Machine

/-- The byte source as the host finds it (R62): absent, not to be opened, or a sequence of bytes that ends, or whose
read fails after the bytes listed. A code is one of CAUSE_MAP. Log entry 15. -/
inductive Source where
  | absent
  | unopenable (code : Byte)
  | ending (bytes : List Byte)
  | failing (bytes : List Byte) (code : Byte)
  deriving DecidableEq, Repr

/-- `COMPUTE src` (R62). -/
def computeCommands : Source → List Instr
  | .absent => [.init, .failinv]
  | .unopenable code => [.init, .failio code]
  | .ending bytes => .init :: (bytes.map .upd ++ [.fin])
  | .failing bytes code => .init :: (bytes.map .upd ++ [.failio code])

/-- `FORMAT`: RDHEX 0 to RDHEX 15 in order (R64). -/
def formatCommands : List Instr := digitPositions.map .rdhex

/-- The source's two error kinds (60_exceptions.md R112), the cause as the host describes it. -/
inductive ChecksumError where
  | invalidInput
  | ioFailure (description : String)
  deriving DecidableEq, Repr

/-- What RESULT gives the host (R63). -/
inductive ResultValue where
  /-- DONE: the 16 characters. -/
  | ok (text : List Char)
  /-- ERROR with ERR 1 or 2. -/
  | err (e : ChecksumError)
  /-- ERROR with ERR 3 or 4: the host broke the command protocol. -/
  | protocolFault
  /-- IDLE or ACTIVE. -/
  | noOutcome
  deriving DecidableEq, Repr

/-- One command and its response, as the host sees them (30_encoding.md R50). -/
def transact (i : Instr) (s : State) : Option (Response × State) :=
  match runCommand (encode i) s with
  | .next t => t.responses.getLast?.map fun r => (r, t)
  | .fault _ => none
  | .refused _ => none

/-- A list of commands, each with its response, in order. -/
def transactAll : List Instr → State → Option (List Response × State)
  | [], s => some ([], s)
  | i :: rest, s =>
    match transact i s with
    | none => none
    | some (r, t) =>
      match transactAll rest t with
      | none => none
      | some (rs, u) => some (r :: rs, u)

/-- The character in a response of RDHEX, `char(DATA[7:0])` (R63). -/
def responseChar (r : Response) : Char := charOf (r.data.extractLsb' 0 8)

/-- The outcome that STATUS in state ERROR gives the host (R63, R128). `none`: an ERR that R63 does not list, which no
instance shows (10_state.md R24). -/
def errorResult (status : Word) : Option ResultValue :=
  match (status.extractLsb' 2 3).toNat with
  | 1 => some (.err .invalidInput)
  | 2 => some (.err (.ioFailure (Config.causeMap (status.extractLsb' 8 8))))
  | 3 => some .protocolFault
  | 4 => some .protocolFault
  | _ => none

/-- `RESULT` (R63): RDST, then FORMAT if the state is DONE. -/
def resultCommand (s : State) : Option (ResultValue × State) :=
  match transact .rdst s with
  | none => none
  | some (r, t) =>
    match (r.data.extractLsb' 0 2).toNat with
    | 2 =>
      match transactAll formatCommands t with
      | none => none
      | some (rs, u) => some (.ok (rs.map responseChar), u)
    | 3 => (errorResult r.data).map fun v => (v, t)
    | _ => some (.noOutcome, t)

/-- The whole of R141: COMPUTE, then RESULT. -/
def computeAndRead (src : Source) (s : State) : Option (ResultValue × State) :=
  match transactAll (computeCommands src) s with
  | none => none
  | some (_, t) => resultCommand t

end Sys2Proof.Machine
end

