-- ==== Sys2Proof/Machine/Run.lean ====
section
/-! DEFINITION. Several steps of one instance, one after another (20_memory.md R44), for statements about sequences of
events. -/

namespace Sys2Proof.Machine

/-- `n` steps, in order. -/
def runSteps : Nat → State → Answer
  | 0, s => .next s
  | n + 1, s =>
    match step s with
    | .next t => runSteps n t
    | .fault r => .fault r
    | .refused r => .refused r

end Sys2Proof.Machine
end

