-- ==== Sys2Proof/Machine/System.lean ====
section
/-! DEFINITION. Any number of instances side by side (60_exceptions.md R134, 10_state.md R30, 20_memory.md R45): each has
its own state, the tables are the same constant for all, and reset reaches every one (70_reset_and_hazards.md R137).
An instance's own `events` stream is not used here: the system's events are delivered one at a time. Log entry 1. -/

namespace Sys2Proof.Machine

/-- The instances of a system, by position. `N_INSTANCES` is the list's length. -/
abbrev System := List State

/-- What reaches a system: a command to one instance, from that instance's one issuer (R135), or a reset of the block. -/
inductive SystemEvent where
  | command (k : Nat) (word : CommandWord)
  | reset
  deriving DecidableEq, Repr

/-- The system of `n` instances right after reset (R134, R137). -/
def System.reset (n : Nat) : System := List.replicate n State.reset

/-- The event as instance `k` meets it: none if it is another instance's command. -/
def eventFor (k : Nat) : SystemEvent → Option HostEvent
  | .command j word => if j = k then some (.command word) else none
  | .reset => some .reset

/-- One event of the system. -/
def System.react (e : SystemEvent) (sys : System) : Host.Outcome System Fault Refusal :=
  match e with
  | .command k word =>
    match sys[k]? with
    | none => .refused .noSuchInstance
    | some s =>
      match runCommand word s with
      | .next t => .next (sys.set k t)
      | .fault r => .fault r
      | .refused r => .refused r
  | .reset => .next (sys.map resetBlock)

/-- A sequence of events of the system, in the order they arrive. -/
def System.run : List SystemEvent → System → Host.Outcome System Fault Refusal
  | [], sys => .next sys
  | e :: rest, sys =>
    match System.react e sys with
    | .next sys' => System.run rest sys'
    | .fault r => .fault r
    | .refused r => .refused r

/-- A sequence of events of one instance alone. -/
def reactAll : List HostEvent → State → Answer
  | [], s => .next s
  | e :: rest, s =>
    match react e s with
    | .next t => reactAll rest t
    | .fault r => .fault r
    | .refused r => .refused r

end Sys2Proof.Machine
end

