-- ==== Sys2Proof/Machine/TableListing.lean ====
section
/-! DEFINITION. The contents of TH as 40_shift_register.md section 5 lists them, copied row for row from the spec and not
computed. The machine reads `tableHigh` (ShiftRegister.lean), which is the construction of R71; this listing is what a
statement holds it against. -/

namespace Sys2Proof.Machine

/-- Row 0x00. -/
def tableHighRow0 : List Word :=
  [0x00000000#32, 0x01B00000#32, 0x03600000#32, 0x02D00000#32, 0x06C00000#32, 0x07700000#32, 0x05A00000#32, 0x04100000#32,
   0x0D800000#32, 0x0C300000#32, 0x0EE00000#32, 0x0F500000#32, 0x0B400000#32, 0x0AF00000#32, 0x08200000#32, 0x09900000#32]

/-- Row 0x10. -/
def tableHighRow1 : List Word :=
  [0x1B000000#32, 0x1AB00000#32, 0x18600000#32, 0x19D00000#32, 0x1DC00000#32, 0x1C700000#32, 0x1EA00000#32, 0x1F100000#32,
   0x16800000#32, 0x17300000#32, 0x15E00000#32, 0x14500000#32, 0x10400000#32, 0x11F00000#32, 0x13200000#32, 0x12900000#32]

/-- Row 0x20. -/
def tableHighRow2 : List Word :=
  [0x36000000#32, 0x37B00000#32, 0x35600000#32, 0x34D00000#32, 0x30C00000#32, 0x31700000#32, 0x33A00000#32, 0x32100000#32,
   0x3B800000#32, 0x3A300000#32, 0x38E00000#32, 0x39500000#32, 0x3D400000#32, 0x3CF00000#32, 0x3E200000#32, 0x3F900000#32]

/-- Row 0x30. -/
def tableHighRow3 : List Word :=
  [0x2D000000#32, 0x2CB00000#32, 0x2E600000#32, 0x2FD00000#32, 0x2BC00000#32, 0x2A700000#32, 0x28A00000#32, 0x29100000#32,
   0x20800000#32, 0x21300000#32, 0x23E00000#32, 0x22500000#32, 0x26400000#32, 0x27F00000#32, 0x25200000#32, 0x24900000#32]

/-- Row 0x40. -/
def tableHighRow4 : List Word :=
  [0x6C000000#32, 0x6DB00000#32, 0x6F600000#32, 0x6ED00000#32, 0x6AC00000#32, 0x6B700000#32, 0x69A00000#32, 0x68100000#32,
   0x61800000#32, 0x60300000#32, 0x62E00000#32, 0x63500000#32, 0x67400000#32, 0x66F00000#32, 0x64200000#32, 0x65900000#32]

/-- Row 0x50. -/
def tableHighRow5 : List Word :=
  [0x77000000#32, 0x76B00000#32, 0x74600000#32, 0x75D00000#32, 0x71C00000#32, 0x70700000#32, 0x72A00000#32, 0x73100000#32,
   0x7A800000#32, 0x7B300000#32, 0x79E00000#32, 0x78500000#32, 0x7C400000#32, 0x7DF00000#32, 0x7F200000#32, 0x7E900000#32]

/-- Row 0x60. -/
def tableHighRow6 : List Word :=
  [0x5A000000#32, 0x5BB00000#32, 0x59600000#32, 0x58D00000#32, 0x5CC00000#32, 0x5D700000#32, 0x5FA00000#32, 0x5E100000#32,
   0x57800000#32, 0x56300000#32, 0x54E00000#32, 0x55500000#32, 0x51400000#32, 0x50F00000#32, 0x52200000#32, 0x53900000#32]

/-- Row 0x70. -/
def tableHighRow7 : List Word :=
  [0x41000000#32, 0x40B00000#32, 0x42600000#32, 0x43D00000#32, 0x47C00000#32, 0x46700000#32, 0x44A00000#32, 0x45100000#32,
   0x4C800000#32, 0x4D300000#32, 0x4FE00000#32, 0x4E500000#32, 0x4A400000#32, 0x4BF00000#32, 0x49200000#32, 0x48900000#32]

/-- Row 0x80. -/
def tableHighRow8 : List Word :=
  [0xD8000000#32, 0xD9B00000#32, 0xDB600000#32, 0xDAD00000#32, 0xDEC00000#32, 0xDF700000#32, 0xDDA00000#32, 0xDC100000#32,
   0xD5800000#32, 0xD4300000#32, 0xD6E00000#32, 0xD7500000#32, 0xD3400000#32, 0xD2F00000#32, 0xD0200000#32, 0xD1900000#32]

/-- Row 0x90. -/
def tableHighRow9 : List Word :=
  [0xC3000000#32, 0xC2B00000#32, 0xC0600000#32, 0xC1D00000#32, 0xC5C00000#32, 0xC4700000#32, 0xC6A00000#32, 0xC7100000#32,
   0xCE800000#32, 0xCF300000#32, 0xCDE00000#32, 0xCC500000#32, 0xC8400000#32, 0xC9F00000#32, 0xCB200000#32, 0xCA900000#32]

/-- Row 0xA0. -/
def tableHighRowA : List Word :=
  [0xEE000000#32, 0xEFB00000#32, 0xED600000#32, 0xECD00000#32, 0xE8C00000#32, 0xE9700000#32, 0xEBA00000#32, 0xEA100000#32,
   0xE3800000#32, 0xE2300000#32, 0xE0E00000#32, 0xE1500000#32, 0xE5400000#32, 0xE4F00000#32, 0xE6200000#32, 0xE7900000#32]

/-- Row 0xB0. -/
def tableHighRowB : List Word :=
  [0xF5000000#32, 0xF4B00000#32, 0xF6600000#32, 0xF7D00000#32, 0xF3C00000#32, 0xF2700000#32, 0xF0A00000#32, 0xF1100000#32,
   0xF8800000#32, 0xF9300000#32, 0xFBE00000#32, 0xFA500000#32, 0xFE400000#32, 0xFFF00000#32, 0xFD200000#32, 0xFC900000#32]

/-- Row 0xC0. -/
def tableHighRowC : List Word :=
  [0xB4000000#32, 0xB5B00000#32, 0xB7600000#32, 0xB6D00000#32, 0xB2C00000#32, 0xB3700000#32, 0xB1A00000#32, 0xB0100000#32,
   0xB9800000#32, 0xB8300000#32, 0xBAE00000#32, 0xBB500000#32, 0xBF400000#32, 0xBEF00000#32, 0xBC200000#32, 0xBD900000#32]

/-- Row 0xD0. -/
def tableHighRowD : List Word :=
  [0xAF000000#32, 0xAEB00000#32, 0xAC600000#32, 0xADD00000#32, 0xA9C00000#32, 0xA8700000#32, 0xAAA00000#32, 0xAB100000#32,
   0xA2800000#32, 0xA3300000#32, 0xA1E00000#32, 0xA0500000#32, 0xA4400000#32, 0xA5F00000#32, 0xA7200000#32, 0xA6900000#32]

/-- Row 0xE0. -/
def tableHighRowE : List Word :=
  [0x82000000#32, 0x83B00000#32, 0x81600000#32, 0x80D00000#32, 0x84C00000#32, 0x85700000#32, 0x87A00000#32, 0x86100000#32,
   0x8F800000#32, 0x8E300000#32, 0x8CE00000#32, 0x8D500000#32, 0x89400000#32, 0x88F00000#32, 0x8A200000#32, 0x8B900000#32]

/-- Row 0xF0. -/
def tableHighRowF : List Word :=
  [0x99000000#32, 0x98B00000#32, 0x9A600000#32, 0x9BD00000#32, 0x9FC00000#32, 0x9E700000#32, 0x9CA00000#32, 0x9D100000#32,
   0x94800000#32, 0x95300000#32, 0x97E00000#32, 0x96500000#32, 0x92400000#32, 0x93F00000#32, 0x91200000#32, 0x90900000#32]

/-- The 256 entries in index order. -/
def tableHighListing : List Word :=
  tableHighRow0 ++ tableHighRow1 ++ tableHighRow2 ++ tableHighRow3 ++ tableHighRow4 ++ tableHighRow5 ++ tableHighRow6 ++ tableHighRow7
    ++ tableHighRow8 ++ tableHighRow9 ++ tableHighRowA ++ tableHighRowB ++ tableHighRowC ++ tableHighRowD ++ tableHighRowE ++ tableHighRowF

end Sys2Proof.Machine
end

