-- ==== Sys2Proof/Safety.lean ====
section
/-! DEFINITION. What statements call a good state: the invariants of 10_state.md R24, and which parts of the state belong
to the block. -/

namespace Sys2Proof.Machine

/-- The invariants of R24: outside ERROR there is no error code and no cause; in ERROR there is a code; only an
IO_FAILURE has a cause. -/
abbrev StatusInv (s : State) : Prop :=
  (s.st ≠ .error → s.err = .noError ∧ s.cause = 0#8)
    ∧ (s.st = .error → s.err ≠ .noError)
    ∧ (s.cause ≠ 0#8 → s.err = .ioFailure)

/-- IDLE is reached by reset alone, so its register is the reset register (10_state.md R20, R31). -/
abbrev IdleRegisterInv (s : State) : Prop := s.st = .idle → s.hi = 0#32 ∧ s.lo = 0#32

/-- The two states agree on everything that is the block's own (10_state.md R31): HI, LO, ST, ERR and CAUSE. -/
abbrev SameBlock (s t : State) : Prop :=
  s.hi = t.hi ∧ s.lo = t.lo ∧ s.st = t.st ∧ s.err = t.err ∧ s.cause = t.cause

/-- The two states agree on the status fields, but perhaps not on the register. -/
abbrev SameStatus (s t : State) : Prop := s.st = t.st ∧ s.err = t.err ∧ s.cause = t.cause

/-- The computation has ended (70_reset_and_hazards.md R146). -/
abbrev Ended (s : State) : Prop := s.st = .done ∨ s.st = .error

end Sys2Proof.Machine
end

