-- ==== Sys2Proof/Certificates/Slice0/Obligations.lean ====
section
/-! DEFINITION. The statements for the provers, from the numbered rules of spec/. A next state is written out field by
field; `s.responses ++ [⟨ok, data⟩]` is the one response of the command (30_encoding.md R53). -/

open Sys2Proof Sys2Proof.Machine

/-! ## Encoding -/

/-- Every command's word decodes to that command, with its operand at every value; the numbering of the opcode table
agrees. -/
def Obligations.DecodeOfEncode : Prop :=
  ∀ i : Instr, decode (encode i) = .command i ∧ decodeTableWord 16 (encode i).toNat = some i

/-- The spec marks R60 as derived from R54 and R55: every word is exactly one legal command, named by OP, its operand
taken from ARG, and then it is that command's only word; or it is illegal. Legality is the predicate of R55, written
apart from the decoder. -/
def Obligations.DecodingIsTotal : Prop :=
  ∀ c : CommandWord,
    (legal c = true ∧ ∃ i, decode c = .command i ∧ encode i = c
        ∧ i.mnemonic.opcode = c.extractLsb' 12 4 ∧ i.arg = c.extractLsb' 0 8)
      ∨ (legal c = false ∧ ∃ why, decode c = .illegal why)

/-- Of the 65,536 words 1,047 are legal: 256 for each of UPD, FAILIO, RDTH and RDTL, 16 for RDHEX, one for each of the
rest; each set is given as a list without repeats. The spec marks the count in R55 as derived. -/
def Obligations.LegalWordCounts : Prop :=
  (∃ words : List CommandWord, words.Nodup ∧ words.length = 1047 ∧ ∀ c, c ∈ words ↔ legal c = true)
    ∧ ∀ m : Mnemonic, ∃ words : List CommandWord, words.Nodup
        ∧ words.length = (match m.form with
            | .byte | .code | .idx => 256
            | .digit => 16
            | .none => 1)
        ∧ ∀ c, c ∈ words ↔ ∃ i, decode c = .command i ∧ i.mnemonic = m

/-- The decoder and the rows of spec/opcode_table.json, each a mask and a pattern, name the same command for every
word. -/
def Obligations.OpcodeTableAgrees : Prop :=
  ∀ (c : CommandWord) (m : Mnemonic),
    (∃ i, decode c = .command i ∧ i.mnemonic = m) ↔ ∃ r ∈ opcodeTable, r.mnemonic = m ∧ r.covers c = true

/-- Words written out from 95_test_vectors.md V-F4. -/
def Obligations.WrittenOutWords : Prop :=
  decode 0x0000#16 = .command .nop ∧ decode 0x1000#16 = .command .init
    ∧ decode 0x20FF#16 = .command (.upd 0xFF#8) ∧ decode 0x3000#16 = .command .fin
    ∧ decode 0x4000#16 = .command (.failio 0x00#8) ∧ decode 0x40FF#16 = .command (.failio 0xFF#8)
    ∧ decode 0x5000#16 = .command .failinv ∧ decode 0x6000#16 = .command .rdhi
    ∧ decode 0x7000#16 = .command .rdlo ∧ decode 0x800F#16 = .command (.rdhex 15#4)
    ∧ decode 0x90FF#16 = .command (.rdth 0xFF#8) ∧ decode 0xA000#16 = .command (.rdtl 0x00#8)
    ∧ decode 0xB000#16 = .command .rdst
    ∧ decode 0x0001#16 = .illegal .operandBits ∧ decode 0x1100#16 = .illegal .reservedBits
    ∧ decode 0x2F31#16 = .illegal .reservedBits ∧ decode 0x5001#16 = .illegal .operandBits
    ∧ decode 0x8010#16 = .illegal .operandBits ∧ decode 0xB001#16 = .illegal .operandBits
    ∧ decode 0xC000#16 = .illegal .reservedOp ∧ decode 0xF0FF#16 = .illegal .reservedOp

/-- A source line that passes the checks of R61 assembles to the command of its mnemonic with its operand as ARG; an
operand on a NONE form, a missing operand and an operand outside its form's values are refused; and the line written
for a command assembles to that command. It is about the checks; the text of a line is log entry 11. -/
def Obligations.AssemblerChecks : Prop :=
  (∀ l : AsmLine, l.wellFormed = true →
      ∃ i, assemble l = some i ∧ i.mnemonic = l.mnemonic ∧ i.arg.toNat = l.operand.getD 0)
    ∧ (∀ m n, m.form = .none → assemble ⟨m, some n⟩ = none)
    ∧ (∀ m, m.form ≠ .none → assemble ⟨m, none⟩ = none)
    ∧ (∀ m n, m.form = .digit → 16 ≤ n → assemble ⟨m, some n⟩ = none)
    ∧ (∀ m n, 256 ≤ n → assemble ⟨m, some n⟩ = none)
    ∧ (∀ i, assemble (disassemble i) = some i)

/-! ## The step -/

/-- When the host's next event is a word that decodes to a command, the step is that command's meaning on the state
whose stream has moved past the word. -/
def Obligations.StepRunsDecoded : Prop :=
  ∀ (s : State) (c : CommandWord) (rest : List HostEvent) (i : Instr),
    s.events = .command c :: rest → decode c = .command i → step s = exec i { s with events := rest }

/-- R121 with R56, R57 and R58: the words that are illegal are the four kinds named there, and such a word raises
ILLEGAL: outside ERROR the state becomes ERROR with ERR = ILLEGAL and CAUSE = 0, in ERROR it stays; the response is
(0, 0); an illegal word has no other effect. -/
def Obligations.IllegalWordFaults : Prop :=
  ∀ c : CommandWord,
    (legal c = false ↔
      0xC#4 ≤ c.extractLsb' 12 4
        ∨ c.extractLsb' 8 4 ≠ 0#4
        ∨ (c.extractLsb' 12 4 ∈ [0x0#4, 0x1#4, 0x3#4, 0x5#4, 0x6#4, 0x7#4, 0xB#4] ∧ c.extractLsb' 0 8 ≠ 0#8)
        ∨ (c.extractLsb' 12 4 = 0x8#4 ∧ c.extractLsb' 4 4 ≠ 0#4))
      ∧ (legal c = false → ∀ (s : State) (rest : List HostEvent), s.events = .command c :: rest →
          (s.st ≠ .error → step s = .next { s with
              events := rest, st := .error, err := .illegal, cause := 0#8,
              responses := s.responses ++ [⟨false, 0#32⟩] })
            ∧ (s.st = .error → step s = .next { s with
              events := rest, responses := s.responses ++ [⟨false, 0#32⟩] }))

/-- With no event from the host the step leaves the state as it is: the instance waits and holds its state. That a wait
is a step with an unchanged state is the model's choice (log entry 2). -/
def Obligations.WaitsWithoutEvents : Prop := ∀ s : State, s.events = [] → step s = .next s

/-- R137: a reset sets HI, LO, ST, ERR and CAUSE to their reset values whatever the state, produces no response and
changes nothing else, in every instance of a system. -/
def Obligations.ResetSetsEveryInstance : Prop :=
  (∀ (s : State) (rest : List HostEvent), s.events = .reset :: rest →
      step s = .next { s with events := rest, hi := 0#32, lo := 0#32, st := .idle, err := .noError, cause := 0#8 })
    ∧ ∀ sys : System, System.react .reset sys = .next (sys.map fun s =>
        { s with hi := 0#32, lo := 0#32, st := .idle, err := .noError, cause := 0#8 })

/-- The values of R31 in the machine after reset, and STATUS = 0 (R106's example). That nothing has been sent and
nothing answered is the model's choice (log entries 2 and 3). -/
def Obligations.ResetValues : Prop :=
  State.reset.hi = 0x00000000#32 ∧ State.reset.lo = 0x00000000#32 ∧ State.reset.st = .idle
    ∧ State.reset.err = .noError ∧ State.reset.cause = 0x00#8 ∧ status State.reset = 0x00000000#32
    ∧ State.reset.events = [] ∧ State.reset.responses = []

/-- The spec marks R139 as derived: the command after a reset, when it is UPD or FIN, raises SEQUENCE; NOP, INIT,
FAILIO, FAILINV, RDTH, RDTL and RDST are answered with OK = 1. -/
def Obligations.FirstCommandAfterReset : Prop :=
  ∀ (s : State) (rest : List HostEvent) (i : Instr), s.events = .reset :: .command (encode i) :: rest →
    ((i = .fin ∨ ∃ b, i = .upd b) →
        runSteps 2 s = .next { s with
          events := rest, hi := 0#32, lo := 0#32, st := .error, err := .sequence, cause := 0#8,
          responses := s.responses ++ [⟨false, 0#32⟩] })
      ∧ ((i ∈ [.nop, .init, .failinv, .rdst] ∨ (∃ b, i = .failio b ∨ i = .rdth b ∨ i = .rdtl b)) →
        ∃ t d, runSteps 2 s = .next t ∧ t.events = rest
          ∧ t.responses = s.responses ++ [⟨true, d⟩])

/-- Every command gets exactly one response, the stream moves past it, and whenever OK = 0, DATA = 0 (R50, R53). -/
def Obligations.OneResponsePerCommand : Prop :=
  ∀ (s : State) (c : CommandWord) (rest : List HostEvent), s.events = .command c :: rest →
    ∃ t r, step s = .next t ∧ t.events = rest ∧ t.responses = s.responses ++ [r] ∧ (r.ok = false → r.data = 0#32)

/-- Every step of every state answers a next state: the block never hangs (R145, with D22's promise of finite time). -/
def Obligations.EveryStepAnswers : Prop := ∀ s : State, ∃ t, step s = .next t

/-! ## The commands of 41_checksum.md -/

/-- R82. -/
def Obligations.NopResult : Prop :=
  encode .nop = 0x0000#16
    ∧ (∀ s : State, exec .nop s = .next { s with responses := s.responses ++ [⟨true, 0#32⟩] })
    ∧ (∀ c : CommandWord, c.extractLsb' 12 4 = 0x0#4 → c ≠ 0x0000#16 → legal c = false)

/-- R83: INIT opens a fresh computation in every state, and is the only command that leaves ERROR. -/
def Obligations.InitResult : Prop :=
  encode .init = 0x1000#16
    ∧ (∀ s : State, exec .init s = .next { s with
        hi := 0#32, lo := 0#32, st := .active, err := .noError, cause := 0#8,
        responses := s.responses ++ [⟨true, 0#32⟩] })
    ∧ (∀ (i : Instr) (s t : State), s.st = .error → exec i s = .next t → t.st ≠ .error → i = .init)

/-- R85: UPD folds its byte in ACTIVE, is ignored in ERROR, and raises SEQUENCE in IDLE and DONE; a byte equal to
LO[7:0] makes it a plain 64-bit right shift by 8; the byte 0 on the register (0, 0) leaves (0, 0). -/
def Obligations.UpdResult : Prop :=
  ∀ (b : Byte) (s : State),
    encode (.upd b) = 0x2000#16 ||| b.setWidth 16
      ∧ (s.st = .active → exec (.upd b) s = .next { s with
          hi := (update (s.hi, s.lo) b).1, lo := (update (s.hi, s.lo) b).2,
          responses := s.responses ++ [⟨true, 0#32⟩] })
      ∧ (s.st = .error → exec (.upd b) s = .next { s with responses := s.responses ++ [⟨false, 0#32⟩] })
      ∧ (s.st = .idle ∨ s.st = .done → exec (.upd b) s = .next { s with
          st := .error, err := .sequence, cause := 0#8, responses := s.responses ++ [⟨false, 0#32⟩] })
      ∧ (b = s.lo.extractLsb' 0 8 →
          reg64 (update (s.hi, s.lo) b).1 (update (s.hi, s.lo) b).2 = reg64 s.hi s.lo >>> 8)
      ∧ update (0#32, 0#32) 0#8 = (0#32, 0#32)

/-- R88: FIN ends the input in ACTIVE, is ignored in ERROR and raises SEQUENCE in IDLE and DONE; it leaves HI and LO;
right after INIT it gives the empty-input result. -/
def Obligations.FinResult : Prop :=
  encode .fin = 0x3000#16
    ∧ ∀ s : State,
        (s.st = .active → exec .fin s = .next { s with
            st := .done, responses := s.responses ++ [⟨true, 0#32⟩] })
          ∧ (s.st = .error → exec .fin s = .next { s with responses := s.responses ++ [⟨false, 0#32⟩] })
          ∧ (s.st = .idle ∨ s.st = .done → exec .fin s = .next { s with
            st := .error, err := .sequence, cause := 0#8, responses := s.responses ++ [⟨false, 0#32⟩] })
          ∧ (∀ t, exec .init s = .next t →
            exec .fin t = .next { t with st := .done, responses := t.responses ++ [⟨true, 0#32⟩] }
              ∧ t.hi = 0#32 ∧ t.lo = 0#32 ∧ format t.hi t.lo = List.replicate 16 '0')

/-- R89: FAILIO moves any state but ERROR to ERROR with IO_FAILURE and its code as CAUSE, responding OK = 1, and no
result can be read after it; ERROR ignores it. -/
def Obligations.FailioResult : Prop :=
  ∀ (code : Byte) (s : State),
    encode (.failio code) = 0x4000#16 ||| code.setWidth 16
      ∧ (s.st ≠ .error → exec (.failio code) s = .next { s with
          st := .error, err := .ioFailure, cause := code, responses := s.responses ++ [⟨true, 0#32⟩] })
      ∧ (s.st = .error → exec (.failio code) s = .next { s with
          responses := s.responses ++ [⟨false, 0#32⟩] })
      ∧ (∀ t i, exec (.failio code) s = .next t → (i = .rdhi ∨ i = .rdlo ∨ ∃ k, i = .rdhex k) →
          exec i t = .next { t with responses := t.responses ++ [⟨false, 0#32⟩] })

/-- R90: FAILINV moves any state but ERROR to ERROR with INVALID_INPUT and CAUSE = 0, responding OK = 1; ERROR ignores
it. -/
def Obligations.FailinvResult : Prop :=
  encode .failinv = 0x5000#16
    ∧ ∀ s : State,
        (s.st ≠ .error → exec .failinv s = .next { s with
            st := .error, err := .invalidInput, cause := 0#8, responses := s.responses ++ [⟨true, 0#32⟩] })
          ∧ (s.st = .error → exec .failinv s = .next { s with responses := s.responses ++ [⟨false, 0#32⟩] })

/-- R80: every command of 41_checksum.md responds with DATA = 0. -/
def Obligations.ChecksumCommandsGiveNoData : Prop :=
  ∀ (i : Instr) (s t : State),
    (i ∈ [.nop, .init, .fin, .failinv] ∨ ∃ b, i = .upd b ∨ i = .failio b) → exec i s = .next t →
      ∃ ok, t.responses = s.responses ++ [⟨ok, 0x00000000#32⟩]

/-- What the commands of 41_checksum.md leave unchanged. FIN, FAILIO and FAILINV never write HI or LO. UPD writes HI and
LO in ACTIVE and then no status field; elsewhere it writes neither half. None touches the stream but by its one response
and none the responses already given. -/
def Obligations.ChecksumCommandFrame : Prop :=
  ∀ (i : Instr) (s t : State), exec i s = .next t →
    (i = .nop → SameBlock s t ∧ t.events = s.events)
      ∧ (i = .init → t.events = s.events)
      ∧ (i ∈ [.fin, .failinv] ∨ (∃ code, i = .failio code) →
          t.hi = s.hi ∧ t.lo = s.lo ∧ t.events = s.events)
      ∧ ((∃ b, i = .upd b) → t.events = s.events
          ∧ (s.st = .active → SameStatus s t)
          ∧ (s.st ≠ .active → t.hi = s.hi ∧ t.lo = s.lo))
      ∧ (i = .fin → s.st = .active → t.err = s.err ∧ t.cause = s.cause)
      ∧ ∃ r, t.responses = s.responses ++ [r]

/-! ## The commands of 42_readout.md -/

/-- R100: in DONE RDHI responds HI; outside DONE (0, 0), with no state change. -/
def Obligations.RdhiResult : Prop :=
  encode .rdhi = 0x6000#16
    ∧ ∀ s : State,
        (s.st = .done → exec .rdhi s = .next { s with responses := s.responses ++ [⟨true, s.hi⟩] })
          ∧ (s.st ≠ .done → exec .rdhi s = .next { s with responses := s.responses ++ [⟨false, 0#32⟩] })

/-- R101: in DONE RDLO responds LO; outside DONE (0, 0), with no state change. -/
def Obligations.RdloResult : Prop :=
  encode .rdlo = 0x7000#16
    ∧ ∀ s : State,
        (s.st = .done → exec .rdlo s = .next { s with responses := s.responses ++ [⟨true, s.lo⟩] })
          ∧ (s.st ≠ .done → exec .rdlo s = .next { s with responses := s.responses ++ [⟨false, 0#32⟩] })

/-- R103: in DONE RDHEX k responds the character code of `x[63 - 4k : 60 - 4k]`, x = HI ++ LO; outside DONE (0, 0);
ARG[7:4] nonzero is illegal. -/
def Obligations.RdhexResult : Prop :=
  (∀ (k : Nibble) (s : State),
      encode (.rdhex k) = 0x8000#16 ||| k.setWidth 16
        ∧ (s.st = .done → exec (.rdhex k) s = .next { s with responses := s.responses
            ++ [⟨true, (hexChar (((s.hi ++ s.lo) >>> (60 - 4 * k.toNat)).setWidth 4)).setWidth 32⟩] })
        ∧ (s.st ≠ .done → exec (.rdhex k) s = .next { s with responses := s.responses ++ [⟨false, 0#32⟩] }))
    ∧ ∀ c : CommandWord, c.extractLsb' 12 4 = 0x8#4 → c.extractLsb' 4 4 ≠ 0#4 → legal c = false

/-- R104: RDTH responds TH[i] in every state; TH[0] = 0. -/
def Obligations.RdthResult : Prop :=
  (∀ (i : Byte) (s : State), encode (.rdth i) = 0x9000#16 ||| i.setWidth 16
      ∧ exec (.rdth i) s = .next { s with responses := s.responses ++ [⟨true, tableHigh i⟩] })
    ∧ ∀ s : State, exec (.rdth 0x00#8) s = .next { s with responses := s.responses ++ [⟨true, 0#32⟩] }

/-- R105: RDTL responds TL[i] in every state, and every entry is 0. -/
def Obligations.RdtlResult : Prop :=
  ∀ (i : Byte) (s : State), encode (.rdtl i) = 0xA000#16 ||| i.setWidth 16
    ∧ exec (.rdtl i) s = .next { s with responses := s.responses ++ [⟨true, tableLow i⟩] }
    ∧ tableLow i = 0#32

/-- R106: RDST responds STATUS in every state and clears nothing; after reset STATUS is 0, in DONE with no error 2. -/
def Obligations.RdstResult : Prop :=
  encode .rdst = 0xB000#16
    ∧ ∀ s : State,
        exec .rdst s = .next { s with responses := s.responses ++ [⟨true, status s⟩] }
          ∧ (s.st = .done → StatusInv s → status s = 0x00000002#32)
          ∧ (s.st = .idle → StatusInv s → status s = 0x00000000#32)

/-- R23, with the codes of R20 and R117: STATUS is ST + 4 ERR + 256 CAUSE; its reserved bits 7:5 and 31:16 read as zero;
ERR is at most 4; CAUSE is nonzero only when ERR = 2 (given the invariants of R24); at reset it is 0. -/
def Obligations.StatusLayout : Prop :=
  (∀ s : State,
      (status s).toNat
          = (match s.st with | .idle => 0 | .active => 1 | .done => 2 | .error => 3)
            + 4 * (match s.err with
              | .noError => 0 | .invalidInput => 1 | .ioFailure => 2 | .sequence => 3 | .illegal => 4)
            + 256 * s.cause.toNat
        ∧ (status s).extractLsb' 0 2 = s.st.code ∧ (status s).extractLsb' 2 3 = s.err.code
        ∧ (status s).extractLsb' 5 3 = 0#3 ∧ (status s).extractLsb' 8 8 = s.cause
        ∧ (status s).extractLsb' 16 16 = 0#16 ∧ (status s).extractLsb' 2 3 ≤ 4#3
        ∧ (StatusInv s → (status s).extractLsb' 8 8 ≠ 0#8 → (status s).extractLsb' 2 3 = 2#3))
    ∧ status State.reset = 0#32

/-- R102's table of digit codes, as 95_test_vectors.md V-F7-1 lists it. The spec marks the ASCII codes as general
knowledge, not of its source (93_implementation_defined.md G1; log entry 13). -/
def Obligations.DigitCodes : Prop :=
  digitPositions.map hexChar
    = [0x30#8, 0x31#8, 0x32#8, 0x33#8, 0x34#8, 0x35#8, 0x36#8, 0x37#8,
       0x38#8, 0x39#8, 0x41#8, 0x42#8, 0x43#8, 0x44#8, 0x45#8, 0x46#8]

/-- The spec marks R107 as derived: no read command, and not NOP, changes HI, LO, ST, ERR, CAUSE or the stream; each adds
its one response to those already given. -/
def Obligations.ReadFrame : Prop :=
  ∀ (i : Instr) (s t : State),
    (i ∈ [.nop, .rdhi, .rdlo, .rdst] ∨ (∃ k, i = .rdhex k) ∨ ∃ j, i = .rdth j ∨ i = .rdtl j) →
      exec i s = .next t →
        SameBlock s t ∧ t.events = s.events ∧ ∃ r, t.responses = s.responses ++ [r]

/-- R108: the format is 16 characters, each an uppercase hexadecimal digit; the first 8, read as a number, are HI and the
last 8 are LO. -/
def Obligations.FormatIsHex : Prop :=
  ∀ hi lo : Word,
    (format hi lo).length = 16
      ∧ (∀ c ∈ format hi lo, c ∈ ['0', '1', '2', '3', '4', '5', '6', '7', '8', '9', 'A', 'B', 'C', 'D', 'E', 'F'])
      ∧ readDigits 16 0 ((format hi lo).take 8) = some hi.toNat
      ∧ readDigits 16 0 ((format hi lo).drop 8) = some lo.toNat

/-- The spec marks R110 as derived: in DONE the characters of RDHEX 0 to RDHEX 15 are the format of (HI, LO), every
response OK, and the block is unchanged. -/
def Obligations.ReadingDigitsGivesFormat : Prop :=
  ∀ s : State, s.st = .done →
    ∃ rs t, transactAll formatCommands s = some (rs, t) ∧ rs.map responseChar = format s.hi s.lo
      ∧ (∀ r ∈ rs, r.ok = true) ∧ SameBlock s t

/-! ## The whole dispatch, errors and invariants -/

/-- The matrix of R81: for every command and state, the OK bit and the next ST. -/
def Obligations.DispatchMatrix : Prop :=
  ∀ (i : Instr) (s : State), ∃ t d,
    exec i s = .next t
      ∧ t.responses = s.responses ++ [⟨(match i with
          | .nop | .init | .rdth _ | .rdtl _ | .rdst => true
          | .upd _ | .fin => s.st == .active
          | .failio _ | .failinv => s.st != .error
          | .rdhi | .rdlo | .rdhex _ => s.st == .done), d⟩]
      ∧ t.st = (match i, s.st with
          | .init, _ => .active
          | .upd _, .active => .active
          | .fin, .active => .done
          | .upd _, _ => .error
          | .fin, _ => .error
          | .failio _, _ => .error
          | .failinv, _ => .error
          | .nop, x | .rdhi, x | .rdlo, x | .rdhex _, x | .rdth _, x | .rdtl _, x | .rdst, x => x)

/-- R123: once ST is ERROR, no event but INIT and reset changes ST, ERR or CAUSE. -/
def Obligations.FirstErrorWins : Prop :=
  ∀ (s t : State) (e : HostEvent) (rest : List HostEvent),
    s.st = .error → s.events = e :: rest → e ≠ .reset → e ≠ .command (encode .init) → step s = .next t →
      t.st = .error ∧ t.err = s.err ∧ t.cause = s.cause

/-- R127: only INIT, which opens a fresh computation, or a reset leaves ERROR; a fault in ERROR changes nothing. -/
def Obligations.OnlyInitOrResetLeavesError : Prop :=
  (∀ s t : State, s.st = .error → step s = .next t → t.st ≠ .error →
      ∃ rest, (s.events = .reset :: rest ∧ t.st = .idle)
        ∨ (s.events = .command (encode .init) :: rest ∧ t.st = .active ∧ t.hi = 0#32 ∧ t.lo = 0#32
            ∧ t.err = .noError ∧ t.cause = 0#8))
    ∧ ∀ (code : ErrCode) (cause : Byte) (s : State), s.st = .error → raiseFault code cause s = s

/-- R126: in ERROR, INIT, NOP, RDTH, RDTL and RDST behave as in every other state; UPD, FIN, FAILIO, FAILINV, RDHI, RDLO,
RDHEX and illegal words respond (0, 0) and change nothing. -/
def Obligations.CommandsInError : Prop :=
  ∀ s : State, s.st = .error →
    exec .init s = .next { s with
        hi := 0#32, lo := 0#32, st := .active, err := .noError, cause := 0#8,
        responses := s.responses ++ [⟨true, 0#32⟩] }
      ∧ exec .nop s = .next { s with responses := s.responses ++ [⟨true, 0#32⟩] }
      ∧ (∀ i, exec (.rdth i) s = .next { s with responses := s.responses ++ [⟨true, tableHigh i⟩] })
      ∧ (∀ i, exec (.rdtl i) s = .next { s with responses := s.responses ++ [⟨true, tableLow i⟩] })
      ∧ exec .rdst s = .next { s with responses := s.responses ++ [⟨true, status s⟩] }
      ∧ (∀ i, (i ∈ [.fin, .failinv, .rdhi, .rdlo] ∨ (∃ b, i = .upd b ∨ i = .failio b) ∨ ∃ k, i = .rdhex k) →
          exec i s = .next { s with responses := s.responses ++ [⟨false, 0#32⟩] })
      ∧ (∀ c, legal c = false →
          runCommand c s = .next { s with responses := s.responses ++ [⟨false, 0#32⟩] })

/-- Which command raises which error, and with what cause (R116, R117, R118, R121): a command that takes another state to
ERROR is FAILINV with INVALID_INPUT, FAILIO with IO_FAILURE and its code, UPD or FIN in IDLE or DONE with SEQUENCE, or an
illegal word with ILLEGAL; and each of these does so. -/
def Obligations.ErrorOrigins : Prop :=
  ∀ (s t : State) (c : CommandWord) (rest : List HostEvent),
    s.events = .command c :: rest → s.st ≠ .error → step s = .next t →
      (t.st = .error →
          (c = encode .failinv ∧ t.err = .invalidInput ∧ t.cause = 0#8)
            ∨ (∃ code, c = encode (.failio code) ∧ t.err = .ioFailure ∧ t.cause = code)
            ∨ ((c = encode .fin ∨ ∃ b, c = encode (.upd b)) ∧ (s.st = .idle ∨ s.st = .done)
                ∧ t.err = .sequence ∧ t.cause = 0#8)
            ∨ (legal c = false ∧ t.err = .illegal ∧ t.cause = 0#8))
        ∧ (c = encode .failinv → t.st = .error ∧ t.err = .invalidInput)
        ∧ (∀ code, c = encode (.failio code) → t.st = .error ∧ t.err = .ioFailure ∧ t.cause = code)
        ∧ ((c = encode .fin ∨ ∃ b, c = encode (.upd b)) → s.st = .idle ∨ s.st = .done →
            t.st = .error ∧ t.err = .sequence)
        ∧ (legal c = false → t.st = .error ∧ t.err = .illegal)

/-- The spec marks R125 as derived: a step into ERROR takes no effect but the error entry of R124 and its one response,
whose DATA is 0; HI and LO are not written and only the command itself has been taken. -/
def Obligations.ErrorsArePrecise : Prop :=
  ∀ s t : State, s.st ≠ .error → step s = .next t → t.st = .error →
    t.hi = s.hi ∧ t.lo = s.lo ∧ (∃ c, s.events = .command c :: t.events)
      ∧ ∃ ok, t.responses = s.responses ++ [⟨ok, 0#32⟩]

/-- Every step keeps the invariants of R24, which the spec marks as derived from R81 and R124. -/
def Obligations.StatusInvariantKept : Prop :=
  ∀ s t : State, StatusInv s → step s = .next t → StatusInv t

/-- Every step keeps the register of IDLE at its reset value (R20: IDLE means no computation started since reset; R31). -/
def Obligations.IdleRegisterKept : Prop :=
  ∀ s t : State, IdleRegisterInv s → step s = .next t → IdleRegisterInv t

/-- Both invariants hold after reset. -/
def Obligations.InvariantsAtReset : Prop := StatusInv State.reset ∧ IdleRegisterInv State.reset

/-- The values of STATUS that the invariants of R24 allow are those of 95_test_vectors.md V-F9. -/
def Obligations.StatusValues : Prop :=
  ∀ s : State, StatusInv s →
    (s.st = .idle ∧ status s = 0x00000000#32)
      ∨ (s.st = .active ∧ status s = 0x00000001#32)
      ∨ (s.st = .done ∧ status s = 0x00000002#32)
      ∨ (s.st = .error ∧ (status s = 0x00000007#32 ∨ status s = 0x0000000F#32 ∨ status s = 0x00000013#32
          ∨ ∃ code : Byte, status s = (code.setWidth 32 <<< 8) ||| 0x0000000B#32))

/-- The spec marks R99 as derived: HI and LO cannot change while ST stays DONE. -/
def Obligations.ResultStableWhileDone : Prop :=
  ∀ s t : State, s.st = .done → step s = .next t → t.st = .done → t.hi = s.hi ∧ t.lo = s.lo

/-- The spec marks R28 as derived: outside DONE no response depends on HI or LO; and in IDLE and ERROR no later response
does, however long the host goes on (93_implementation_defined.md S6). -/
def Obligations.RegisterHiddenOutsideDone : Prop :=
  ∀ s t : State, SameStatus s t → s.events = t.events → s.responses = t.responses →
    (s.st ≠ .done → ∃ s' t', step s = .next s' ∧ step t = .next t' ∧ s'.responses = t'.responses)
      ∧ (s.st = .idle ∨ s.st = .error → ∀ n, ∃ s' t',
          runSteps n s = .next s' ∧ runSteps n t = .next t'
            ∧ s'.responses = t'.responses)

/-- R29: no command reads a response. A run from a state with other responses already given reaches the same block and
stream, and gives the same further responses (so R94, which the spec derives: the responses are a function of the block's
state and the events). -/
def Obligations.ResponsesAreNotRead : Prop :=
  ∀ (s : State) (n : Nat), ∃ t u,
    runSteps n s = .next t
      ∧ runSteps n { s with responses := [] } = .next u
      ∧ SameBlock t u ∧ t.events = u.events ∧ t.responses = s.responses ++ u.responses

/-! ## The shift, the tables and the fold -/

/-- The spec marks R69 as derived: the shift on the two halves is the 64-bit reflected shift. -/
def Obligations.SplitShiftIsLongShift : Prop :=
  ∀ hi lo : Word, shift1 (hi, lo) = halves (shift1Long (reg64 hi lo))

/-- The constructed tables are the listing of 40_shift_register.md section 5, entry for entry. -/
def Obligations.TablesAreAsListed : Prop :=
  tableHighListing.length = 256
    ∧ ∀ i : Byte, tableHighListing[i.toNat]? = some (tableHigh i) ∧ tableLow i = 0x00000000#32

/-- R74: the zero entries, and a zero byte through a zero register. -/
def Obligations.ZeroEntries : Prop :=
  tableHigh 0#8 = 0#32 ∧ tableLow 0#8 = 0#32 ∧ update (0#32, 0#32) 0#8 = (0#32, 0#32)

/-- The spec marks R73 as derived: TL is zero everywhere and TH[i][19:0] = 0. -/
def Obligations.TableLowBitsZero : Prop :=
  ∀ i : Byte, tableLow i = 0#32 ∧ (tableHigh i).extractLsb' 0 20 = 0#20

/-- The spec marks R75 as derived: the tables are linear over XOR. -/
def Obligations.TablesAreLinear : Prop :=
  ∀ i j : Byte, tableHigh (i ^^^ j) = tableHigh i ^^^ tableHigh j ∧ tableLow (i ^^^ j) = tableLow i ^^^ tableLow j

/-- The spec marks R86 as derived: the update on the halves is UPDATE_64. -/
def Obligations.UpdateIsLongUpdate : Prop :=
  ∀ (hi lo : Word) (b : Byte), update (hi, lo) b = halves (updateLong (reg64 hi lo) b)

/-- The spec marks R87 as derived: the table-driven update is the bit-serial reflected CRC of the byte. -/
def Obligations.UpdateIsBitSerial : Prop :=
  ∀ (x : Long) (b : Byte), updateLong x b = iterate shift1Long 8 (x ^^^ b.setWidth 64)

/-- The spec marks R97 as derived: the fold of sequences of equal length is linear over XOR, and zero bytes leave
(0, 0). -/
def Obligations.FoldIsLinear : Prop :=
  (∀ (h₁ l₁ h₂ l₂ : Word) (s t : List Byte), s.length = t.length →
      fold (h₁ ^^^ h₂, l₁ ^^^ l₂) (List.zipWith (· ^^^ ·) s t)
        = ((fold (h₁, l₁) s).1 ^^^ (fold (h₂, l₂) t).1, (fold (h₁, l₁) s).2 ^^^ (fold (h₂, l₂) t).2))
    ∧ ∀ n, fold (0#32, 0#32) (List.replicate n 0#8) = (0#32, 0#32)

/-- The spec marks R93 as derived: folding chunks in order is folding the whole; and an open computation whose UPDs come
with NOP, RDTH, RDTL and RDST between them, in any grouping, reaches the fold of the bytes alone and stays open. -/
def Obligations.ChunkedFold : Prop :=
  (∀ (r : Word × Word) (s t : List Byte), fold r (s ++ t) = fold (fold r s) t)
    ∧ ∀ (cs : List Instr) (s : State), s.st = .active →
        (∀ i ∈ cs, i ∈ [.nop, .rdst] ∨ ∃ b, i = .upd b ∨ i = .rdth b ∨ i = .rdtl b) →
          ∃ rs t, transactAll cs s = some (rs, t) ∧ t.st = .active
            ∧ (t.hi, t.lo) = fold (s.hi, s.lo) (cs.filterMap fun
              | .upd b => some b
              | _ => none)

/-- The spec marks R92 as derived: from any state, a computation over a sequence of bytes (INIT, one UPD a byte, FIN),
sent as command words, leaves ST = DONE, no error and (HI, LO) = FOLD((0, 0), s), every command answered (1, 0). -/
def Obligations.ComputationLeavesFold : Prop :=
  ∀ (s : State) (bytes : List Byte) (rest : List HostEvent),
    s.events = (computeCommands (.ending bytes)).map (fun i => .command (encode i)) ++ rest →
      runSteps (bytes.length + 2) s = .next { s with
        hi := (fold (0#32, 0#32) bytes).1, lo := (fold (0#32, 0#32) bytes).2,
        st := .done, err := .noError, cause := 0#8, events := rest,
        responses := s.responses ++ List.replicate (bytes.length + 2) ⟨true, 0#32⟩ }

/-- R128 and R63: what the host makes of each state with RDST and RDHEX: in DONE the format of (HI, LO); in ERROR
InvalidInput, IoFailure with the host's description of CAUSE, or a broken protocol for ERR 3 and 4; in IDLE and ACTIVE no
outcome yet. -/
def Obligations.ResultOfEachState : Prop :=
  ∀ s : State, ∃ t, SameBlock s t
    ∧ (s.st = .done → resultCommand s = some (.ok (format s.hi s.lo), t))
    ∧ (s.st = .error → s.err = .invalidInput → resultCommand s = some (.err .invalidInput, t))
    ∧ (s.st = .error → s.err = .ioFailure →
        resultCommand s = some (.err (.ioFailure (Config.causeMap s.cause)), t))
    ∧ (s.st = .error → s.err = .sequence ∨ s.err = .illegal → resultCommand s = some (.protocolFault, t))
    ∧ (s.st = .idle ∨ s.st = .active → resultCommand s = some (.noOutcome, t))

/-- COMPUTE then RESULT, from any state (R62, R92, R128): an absent source gives InvalidInput, one that cannot be opened
or whose read fails gives IoFailure with the description of its code, and one that ends gives the format of the fold of
its bytes. It holds whatever CAUSE_MAP is (log entry 10). -/
def Obligations.ComputeAndReadOutcome : Prop :=
  ∀ (src : Source) (s : State), ∃ t,
    computeAndRead src s = some ((match src with
        | .absent => .err .invalidInput
        | .unopenable code => .err (.ioFailure (Config.causeMap code))
        | .ending bytes => .ok (format (fold (0#32, 0#32) bytes).1 (fold (0#32, 0#32) bytes).2)
        | .failing _ code => .err (.ioFailure (Config.causeMap code))), t)
      ∧ Ended t

/-! ## Many instances -/

/-- The spec marks R45 as derived: in a system of any number of instances, any interleaving of commands and resets takes
each instance to the state, with the responses, that its own commands and the resets alone would give; and the system
answers a next state whenever every command is addressed to an instance it has. -/
def Obligations.InstancesAreIndependent : Prop :=
  (∀ (es : List SystemEvent) (sys sys' : System), System.run es sys = .next sys' →
      sys'.length = sys.length
        ∧ ∀ k s, sys[k]? = some s →
          ∃ t, sys'[k]? = some t ∧ reactAll (es.filterMap (eventFor k)) s = .next t)
    ∧ ∀ (es : List SystemEvent) (sys : System),
        (∀ k word, SystemEvent.command k word ∈ es → k < sys.length) → ∃ sys', System.run es sys = .next sys'
end

