-- ==== Sys2Proof/Laws/Decode.lean ====
section
/-! SUPPORT. The fields of a command word (30_encoding.md R51). -/

namespace Sys2Proof

@[simp] theorem opField_commandWord (op : Nibble) (arg : Byte) : opField (commandWord op arg) = op := by
  ext i hi
  simp only [opField, commandWord, BitVec.getElem_extractLsb', BitVec.getLsbD_append]
  have h1 : ¬ (12 + i < 8) := by omega
  have h2 : ¬ (12 + i - 8 < 4) := by omega
  simp [h1, h2, show 12 + i - 8 - 4 = i by omega, hi]

@[simp] theorem rsvField_commandWord (op : Nibble) (arg : Byte) : rsvField (commandWord op arg) = 0#4 := by
  ext i hi
  simp only [rsvField, commandWord, BitVec.getElem_extractLsb', BitVec.getLsbD_append]
  have h1 : ¬ (8 + i < 8) := by omega
  simp [h1, hi]

@[simp] theorem argField_commandWord (op : Nibble) (arg : Byte) : argField (commandWord op arg) = arg := by
  ext i hi
  simp only [argField, commandWord, BitVec.getElem_extractLsb', BitVec.getLsbD_append]
  simp [hi]

/-- The three fields make the word. -/
theorem commandWord_fields (c : CommandWord) (h : rsvField c = 0#4) :
    commandWord (opField c) (argField c) = c := by
  have hz : ∀ j, c.getLsbD (8 + j) = false ∨ 4 ≤ j := by
    intro j
    by_cases hj : j < 4
    · have := congrArg (fun v => v.getLsbD j) h
      simp [rsvField, hj] at this
      exact .inl (by simpa using this)
    · exact .inr (by omega)
  ext i hi
  simp only [commandWord, opField, argField, ← BitVec.getLsbD_eq_getElem, BitVec.getLsbD_append,
    BitVec.getLsbD_extractLsb']
  by_cases h8 : i < 8
  · simp [h8]
  · by_cases h12 : i - 8 < 4
    · rcases hz (i - 8) with hh | hh
      · rw [show 8 + (i - 8) = i by omega] at hh
        simp [h8, h12, hh]
      · omega
    · simp [h8, h12, show 12 + (i - 8 - 4) = i by omega, show i - 8 - 4 < 4 by omega]

end Sys2Proof
end

