-- ==== Sys2Proof/Laws/State.lean ====
section
/-! SUPPORT. What each update of State does to each field, so that no later proof unfolds a record update. -/

namespace Sys2Proof.Machine

@[simp] theorem respond_hi (ok : Bool) (data : Word) (s : State) : (respond ok data s).hi = s.hi := rfl
@[simp] theorem respond_lo (ok : Bool) (data : Word) (s : State) : (respond ok data s).lo = s.lo := rfl
@[simp] theorem respond_st (ok : Bool) (data : Word) (s : State) : (respond ok data s).st = s.st := rfl
@[simp] theorem respond_err (ok : Bool) (data : Word) (s : State) : (respond ok data s).err = s.err := rfl
@[simp] theorem respond_cause (ok : Bool) (data : Word) (s : State) : (respond ok data s).cause = s.cause := rfl
@[simp] theorem respond_events (ok : Bool) (data : Word) (s : State) : (respond ok data s).events = s.events := rfl
@[simp] theorem respond_responses (ok : Bool) (data : Word) (s : State) : (respond ok data s).responses = s.responses ++ [⟨ok, data⟩] := rfl

@[simp] theorem openComputation_hi (s : State) : (openComputation s).hi = 0#32 := rfl
@[simp] theorem openComputation_lo (s : State) : (openComputation s).lo = 0#32 := rfl
@[simp] theorem openComputation_st (s : State) : (openComputation s).st = .active := rfl
@[simp] theorem openComputation_err (s : State) : (openComputation s).err = .noError := rfl
@[simp] theorem openComputation_cause (s : State) : (openComputation s).cause = 0#8 := rfl
@[simp] theorem openComputation_events (s : State) : (openComputation s).events = s.events := rfl
@[simp] theorem openComputation_responses (s : State) : (openComputation s).responses = s.responses := rfl

@[simp] theorem setRegister_hi (r : Word × Word) (s : State) : (setRegister r s).hi = r.1 := rfl
@[simp] theorem setRegister_lo (r : Word × Word) (s : State) : (setRegister r s).lo = r.2 := rfl
@[simp] theorem setRegister_st (r : Word × Word) (s : State) : (setRegister r s).st = s.st := rfl
@[simp] theorem setRegister_err (r : Word × Word) (s : State) : (setRegister r s).err = s.err := rfl
@[simp] theorem setRegister_cause (r : Word × Word) (s : State) : (setRegister r s).cause = s.cause := rfl
@[simp] theorem setRegister_events (r : Word × Word) (s : State) : (setRegister r s).events = s.events := rfl
@[simp] theorem setRegister_responses (r : Word × Word) (s : State) : (setRegister r s).responses = s.responses := rfl

@[simp] theorem finish_hi (s : State) : (finish s).hi = s.hi := rfl
@[simp] theorem finish_lo (s : State) : (finish s).lo = s.lo := rfl
@[simp] theorem finish_st (s : State) : (finish s).st = .done := rfl
@[simp] theorem finish_err (s : State) : (finish s).err = s.err := rfl
@[simp] theorem finish_cause (s : State) : (finish s).cause = s.cause := rfl
@[simp] theorem finish_events (s : State) : (finish s).events = s.events := rfl
@[simp] theorem finish_responses (s : State) : (finish s).responses = s.responses := rfl

@[simp] theorem resetBlock_hi (s : State) : (resetBlock s).hi = 0#32 := rfl
@[simp] theorem resetBlock_lo (s : State) : (resetBlock s).lo = 0#32 := rfl
@[simp] theorem resetBlock_st (s : State) : (resetBlock s).st = .idle := rfl
@[simp] theorem resetBlock_err (s : State) : (resetBlock s).err = .noError := rfl
@[simp] theorem resetBlock_cause (s : State) : (resetBlock s).cause = 0#8 := rfl
@[simp] theorem resetBlock_events (s : State) : (resetBlock s).events = s.events := rfl
@[simp] theorem resetBlock_responses (s : State) : (resetBlock s).responses = s.responses := rfl

@[simp] theorem offer_hi (c : CommandWord) (s : State) : (offer c s).hi = s.hi := rfl
@[simp] theorem offer_lo (c : CommandWord) (s : State) : (offer c s).lo = s.lo := rfl
@[simp] theorem offer_st (c : CommandWord) (s : State) : (offer c s).st = s.st := rfl
@[simp] theorem offer_err (c : CommandWord) (s : State) : (offer c s).err = s.err := rfl
@[simp] theorem offer_cause (c : CommandWord) (s : State) : (offer c s).cause = s.cause := rfl
@[simp] theorem offer_events (c : CommandWord) (s : State) : (offer c s).events = .command c :: s.events := rfl
@[simp] theorem offer_responses (c : CommandWord) (s : State) : (offer c s).responses = s.responses := rfl

/-! `raiseFault` writes nothing in ERROR (60_exceptions.md R124), and never the register or the streams. -/

@[simp] theorem raiseFault_hi (code : ErrCode) (cause : Byte) (s : State) : (raiseFault code cause s).hi = s.hi := by
  unfold raiseFault; cases s.st <;> rfl
@[simp] theorem raiseFault_lo (code : ErrCode) (cause : Byte) (s : State) : (raiseFault code cause s).lo = s.lo := by
  unfold raiseFault; cases s.st <;> rfl
@[simp] theorem raiseFault_events (code : ErrCode) (cause : Byte) (s : State) :
    (raiseFault code cause s).events = s.events := by
  unfold raiseFault; cases s.st <;> rfl
@[simp] theorem raiseFault_responses (code : ErrCode) (cause : Byte) (s : State) :
    (raiseFault code cause s).responses = s.responses := by
  unfold raiseFault; cases s.st <;> rfl
@[simp] theorem raiseFault_st (code : ErrCode) (cause : Byte) (s : State) :
    (raiseFault code cause s).st = .error := by
  unfold raiseFault
  split <;> first | rfl | assumption
@[simp] theorem raiseFault_err (code : ErrCode) (cause : Byte) (s : State) :
    (raiseFault code cause s).err = if s.st = .error then s.err else code := by
  unfold raiseFault
  split <;> simp_all
@[simp] theorem raiseFault_cause (code : ErrCode) (cause : Byte) (s : State) :
    (raiseFault code cause s).cause = if s.st = .error then s.cause else cause := by
  unfold raiseFault
  split <;> simp_all

end Sys2Proof.Machine
end

