-- ==== Sys2Proof/Laws/Ops.lean ====
section
/-! SUPPORT. Everything each shared operation can do, once. -/

namespace Sys2Proof.Machine

theorem raiseFault_of_error {code : ErrCode} {cause : Byte} {s : State} (h : s.st = .error) :
    raiseFault code cause s = s := by
  simp [raiseFault, h]

theorem raiseFault_of_not_error {code : ErrCode} {cause : Byte} {s : State} (h : s.st ≠ .error) :
    raiseFault code cause s = { s with st := .error, err := code, cause := cause } := by
  unfold raiseFault
  split
  · contradiction
  all_goals rfl

theorem ignored_eq (s : State) : ignored s = .next (respond false 0#32 s) := rfl

theorem outOfSequence_eq (s : State) :
    outOfSequence s = .next (respond false 0#32 (raiseFault .sequence 0#8 s)) := rfl

theorem openRead_eq (data : Word) (s : State) : openRead data s = .next (respond true data s) := rfl

theorem illegalWord_eq (s : State) :
    illegalWord s = .next (respond false 0#32 (raiseFault .illegal 0#8 s)) := rfl

theorem resultRead_eq (data : Word) (s : State) :
    resultRead data s = .next (if s.st = .done then respond true data s else respond false 0#32 s) := by
  unfold resultRead
  split <;> simp_all

theorem reportFailure_eq (code : ErrCode) (cause : Byte) (s : State) :
    reportFailure code cause s
      = .next (if s.st = .error then respond false 0#32 s else respond true 0#32 (raiseFault code cause s)) := by
  unfold reportFailure ignored
  split <;> simp_all

theorem execUpd_eq (b : Byte) (s : State) :
    execUpd b s
      = .next (if s.st = .active then respond true 0#32 (setRegister (update (s.hi, s.lo) b) s)
          else respond false 0#32 (raiseFault .sequence 0#8 s)) := by
  unfold execUpd
  split <;> simp_all [ignored, outOfSequence, raiseFault_of_error]

theorem execFin_eq (s : State) :
    execFin s
      = .next (if s.st = .active then respond true 0#32 (finish s)
          else respond false 0#32 (raiseFault .sequence 0#8 s)) := by
  unfold execFin
  split <;> simp_all [ignored, outOfSequence, raiseFault_of_error]

end Sys2Proof.Machine
end

