-- ==== Sys2Proof/Laws/PerInstr.lean ====
section
/-! SUPPORT. A statement about every command as syntax: its word is legal by the predicate of 30_encoding.md R55, which is
written apart from the decoder. -/

namespace Sys2Proof.Laws.EncodeLegal

/-- The command's word is one of the legal words (R55). -/
def Statement (i : Instr) : Prop := legal (encode i) = true

/-- `legal` through the fields of R51. -/
theorem legal_fields (op : Nibble) (arg : Byte)
    (h : (op = 0x2#4 ∨ op = 0x4#4 ∨ op = 0x9#4 ∨ op = 0xA#4)
      ∨ (op = 0x8#4 ∧ digitUpper arg = 0#4)
      ∨ ((op = 0x0#4 ∨ op = 0x1#4 ∨ op = 0x3#4 ∨ op = 0x5#4 ∨ op = 0x6#4 ∨ op = 0x7#4 ∨ op = 0xB#4)
          ∧ arg = 0#8)) :
    legal (commandWord op arg) = true := by
  have ho : (commandWord op arg).extractLsb' 12 4 = op := opField_commandWord op arg
  have hr : (commandWord op arg).extractLsb' 8 4 = 0#4 := rsvField_commandWord op arg
  have ha : (commandWord op arg).extractLsb' 0 8 = arg := argField_commandWord op arg
  have hu : (commandWord op arg).extractLsb' 4 4 = digitUpper arg := by
    conv_rhs => rw [← ha]
    ext i hi
    have h8 : 4 + i < 8 := by omega
    simp only [digitUpper, BitVec.getElem_extractLsb', BitVec.getLsbD_extractLsb', Nat.zero_add, h8,
      decide_true, Bool.true_and]
  unfold legal
  rw [ho, hr, ha, hu]
  rcases h with (rfl | rfl | rfl | rfl) | ⟨rfl, h⟩ | ⟨(rfl | rfl | rfl | rfl | rfl | rfl | rfl), rfl⟩
  case inr.inl => simp [h]
  all_goals simp

theorem nop : Statement .nop := legal_fields _ _ (by decide)
theorem init : Statement .init := legal_fields _ _ (by decide)
theorem upd (b : Byte) : Statement (.upd b) := legal_fields _ _ (.inl (.inl rfl))
theorem fin : Statement .fin := legal_fields _ _ (by decide)
theorem failio (code : Byte) : Statement (.failio code) := legal_fields _ _ (.inl (.inr (.inl rfl)))
theorem failinv : Statement .failinv := legal_fields _ _ (by decide)
theorem rdhi : Statement .rdhi := legal_fields _ _ (by decide)
theorem rdlo : Statement .rdlo := legal_fields _ _ (by decide)
theorem rdhex (k : Nibble) : Statement (.rdhex k) :=
  legal_fields _ _ (.inr (.inl ⟨rfl, by revert k; decide⟩))
theorem rdth (i : Byte) : Statement (.rdth i) := legal_fields _ _ (.inl (.inr (.inr (.inl rfl))))
theorem rdtl (i : Byte) : Statement (.rdtl i) := legal_fields _ _ (.inl (.inr (.inr (.inr rfl))))
theorem rdst : Statement .rdst := legal_fields _ _ (by decide)

end Sys2Proof.Laws.EncodeLegal
end

