-- ==== Sys2Proof/Laws/Register.lean ====
section
/-! SUPPORT. The two views of the register (00_scope.md R10) undo each other, and what each holds bit by bit. -/

namespace Sys2Proof.Machine

@[simp] theorem reg64_getLsbD (hi lo : Word) (n : Nat) :
    (reg64 hi lo).getLsbD n = if n < 32 then lo.getLsbD n else hi.getLsbD (n - 32) := by
  show (hi ++ lo : BitVec (32 + 32)).getLsbD n = _
  rw [BitVec.getLsbD_append]

@[simp] theorem halves_reg64 (hi lo : Word) : halves (reg64 hi lo) = (hi, lo) := by
  unfold halves
  congr 1
  · ext i h
    simp [← BitVec.getLsbD_eq_getElem, h]
  · ext i h
    simp [← BitVec.getLsbD_eq_getElem, h]

@[simp] theorem reg64_halves (x : Long) : reg64 (halves x).1 (halves x).2 = x := by
  ext i h
  simp only [← BitVec.getLsbD_eq_getElem, reg64_getLsbD, halves, BitVec.getLsbD_extractLsb', Nat.zero_add]
  by_cases h32 : i < 32
  · simp [h32]
  · simp [h32, show i - 32 < 32 by omega, show 32 + (i - 32) = i by omega]

@[simp] theorem iterate_zero {α : Type} (f : α → α) (x : α) : iterate f 0 x = x := rfl

theorem iterate_succ {α : Type} (f : α → α) (n : Nat) (x : α) : iterate f (n + 1) x = iterate f n (f x) := rfl

@[simp] theorem fold_nil (r : Word × Word) : fold r [] = r := rfl

theorem fold_cons (r : Word × Word) (b : Byte) (s : List Byte) : fold r (b :: s) = fold (update r b) s := rfl

end Sys2Proof.Machine
end

