-- ==== Sys2Proof/Laws/Step.lean ====
section
/-! SUPPORT. What a step can do: the next state each command gives, and the four kinds of step. -/

namespace Sys2Proof.Machine

/-- The next state of each command, in one expression over the shared operations (41_checksum.md R81). -/
theorem exec_eq (i : Instr) (s : State) :
    exec i s = .next (match i with
      | .nop => respond true 0#32 s
      | .init => respond true 0#32 (openComputation s)
      | .upd b => if s.st = .active then respond true 0#32 (setRegister (update (s.hi, s.lo) b) s)
          else respond false 0#32 (raiseFault .sequence 0#8 s)
      | .fin => if s.st = .active then respond true 0#32 (finish s)
          else respond false 0#32 (raiseFault .sequence 0#8 s)
      | .failio code => if s.st = .error then respond false 0#32 s
          else respond true 0#32 (raiseFault .ioFailure code s)
      | .failinv => if s.st = .error then respond false 0#32 s
          else respond true 0#32 (raiseFault .invalidInput 0#8 s)
      | .rdhi => if s.st = .done then respond true s.hi s else respond false 0#32 s
      | .rdlo => if s.st = .done then respond true s.lo s else respond false 0#32 s
      | .rdhex k => if s.st = .done then
            respond true ((hexChar (hexDigit (reg64 s.hi s.lo) k)).setWidth 32) s
          else respond false 0#32 s
      | .rdth i => respond true (tableHigh i) s
      | .rdtl i => respond true (tableLow i) s
      | .rdst => respond true (status s) s) := by
  cases i
  case upd b => exact execUpd_eq b s
  case fin => exact execFin_eq s
  case failio code => exact reportFailure_eq _ _ s
  case failinv => exact reportFailure_eq _ _ s
  case rdhi => exact resultRead_eq _ s
  case rdlo => exact resultRead_eq _ s
  case rdhex k => exact resultRead_eq _ s
  all_goals rfl

/-- The four kinds of step: the instance waits, is reset, runs a command, or meets an illegal word. -/
theorem step_cases {s t : State} (h : step s = .next t) :
    (s.events = [] ∧ t = s)
      ∨ (∃ rest, s.events = .reset :: rest ∧ t = resetBlock { s with events := rest })
      ∨ (∃ c rest i, s.events = .command c :: rest ∧ decode c = .command i
          ∧ exec i { s with events := rest } = .next t)
      ∨ (∃ c rest why, s.events = .command c :: rest ∧ decode c = .illegal why
          ∧ t = respond false 0#32 (raiseFault .illegal 0#8 { s with events := rest })) := by
  unfold step takeEvent at h
  split at h
  · next he => exact .inl ⟨he, by cases h; rfl⟩
  · next e rest he =>
    cases e with
    | reset => exact .inr (.inl ⟨rest, he, by cases h; rfl⟩)
    | command c =>
      simp only [react, runCommand] at h
      split at h
      · next i hi => exact .inr (.inr (.inl ⟨c, rest, i, he, hi, h⟩))
      · next why hw => exact .inr (.inr (.inr ⟨c, rest, why, he, hw, by cases h; rfl⟩))

@[simp] theorem runSteps_zero (s : State) : runSteps 0 s = .next s := rfl

/-- A run is its first step and the rest. -/
theorem runSteps_succ {s t : State} (n : Nat) (h : step s = .next t) : runSteps (n + 1) s = runSteps n t := by
  simp [runSteps, h]

/-- A run here is a run of the host's machine. -/
theorem runSteps_eq_core_run (n : Nat) (s : State) : Host.Core.run Sys2Proof.core n s = runSteps n s := by
  induction n generalizing s with
  | zero => rfl
  | succ n ih =>
    refine (Host.Core.run.eq_2 Sys2Proof.core s n).trans ?_
    have hs : Sys2Proof.core.step s = step s := rfl
    rw [hs]
    unfold runSteps
    cases step s with
    | next t => exact ih t
    | fault r => rfl
    | refused r => rfl

end Sys2Proof.Machine
end

