-- ==== Sys2Proof/Tests/Slice0.lean ====
section
/-! SUPPORT. The model's own tests. Expected values come from spec/95_test_vectors.md and from the examples in the rules;
each test names its vector. The last part shows, for each statement with hypotheses, a state and operands that meet
them, one for each clause. -/

namespace Sys2Proof.Tests

open Sys2Proof.Machine

/-- The next state, where there is one. -/
def nextOf (a : Answer) : Option State :=
  match a with
  | .next s => some s
  | .fault _ => none
  | .refused _ => none

/-- The last response of an answer. -/
def responseOf (a : Answer) : Option Response := (nextOf a).bind fun s => s.responses.getLast?

/-- The register and STATUS of an answer. -/
def blockOf (a : Answer) : Option (Word × Word × Word) := (nextOf a).map fun s => (s.hi, s.lo, status s)

/-- The four start states of V-F8. -/
def idleState : State := State.reset
def activeState : State := { State.reset with hi := 0x2CB00000#32, st := .active }
def doneState : State := { State.reset with hi := 0x2CB00000#32, st := .done }
def errorState : State := { State.reset with hi := 0x2CB00000#32, st := .error, err := .ioFailure, cause := 0x07#8 }

/-- ERROR with another code and cause. -/
def errorWith (err : ErrCode) (cause : Byte) : State := { errorState with err := err, cause := cause }

/-- The result of "123456789" (V-L4). -/
def checkState : State := { State.reset with hi := 0x46A5A938#32, lo := 0x8A5BEFFE#32, st := .done }

/-- The same state with events the host is about to send. -/
def withEvents (es : List HostEvent) (s : State) : State := { s with events := es }

/-! ## Well-formedness: an ill-formed line for each check of R61, which the check refuses -/

theorem test_wellFormed_refuses_byte_range : AsmLine.wellFormed ⟨.upd, some 256⟩ = false := by decide
theorem test_wellFormed_refuses_code_range : AsmLine.wellFormed ⟨.failio, some 256⟩ = false := by decide
theorem test_wellFormed_refuses_index_range : AsmLine.wellFormed ⟨.rdth, some 256⟩ = false := by decide
theorem test_wellFormed_refuses_digit_range : AsmLine.wellFormed ⟨.rdhex, some 16⟩ = false := by decide
theorem test_wellFormed_refuses_extra_operand : AsmLine.wellFormed ⟨.init, some 0⟩ = false := by decide
theorem test_wellFormed_refuses_missing_operand :
    AsmLine.wellFormed ⟨.upd, none⟩ = false ∧ AsmLine.wellFormed ⟨.failio, none⟩ = false
      ∧ AsmLine.wellFormed ⟨.rdtl, none⟩ = false ∧ AsmLine.wellFormed ⟨.rdhex, none⟩ = false := by decide
theorem test_wellFormed_admits_limits :
    AsmLine.wellFormed ⟨.upd, some 255⟩ = true ∧ AsmLine.wellFormed ⟨.rdhex, some 15⟩ = true
      ∧ AsmLine.wellFormed ⟨.fin, none⟩ = true := by decide

/-! ## Decoding: each command's word written out from R51 and R54, OP, RSV and ARG in binary -/

theorem test_decode_nop : decode 0b0000000000000000#16 = .command .nop := by decide
theorem test_decode_init : decode 0b0001000000000000#16 = .command .init := by decide
theorem test_decode_upd : decode 0b0010000000110001#16 = .command (.upd 0x31#8) := by decide
theorem test_decode_fin : decode 0b0011000000000000#16 = .command .fin := by decide
theorem test_decode_failio : decode 0b0100000000000101#16 = .command (.failio 0x05#8) := by decide
theorem test_decode_failinv : decode 0b0101000000000000#16 = .command .failinv := by decide
theorem test_decode_rdhi : decode 0b0110000000000000#16 = .command .rdhi := by decide
theorem test_decode_rdlo : decode 0b0111000000000000#16 = .command .rdlo := by decide
theorem test_decode_rdhex : decode 0b1000000000001111#16 = .command (.rdhex 15#4) := by decide
theorem test_decode_rdth : decode 0b1001000010000000#16 = .command (.rdth 0x80#8) := by decide
theorem test_decode_rdtl : decode 0b1010000011111111#16 = .command (.rdtl 0xFF#8) := by decide
theorem test_decode_rdst : decode 0b1011000000000000#16 = .command .rdst := by decide

/-- V-F4-2, V-F4-4, V-F4-6, V-F4-15, V-F4-20. -/
theorem test_decode_illegal :
    decode 0x0001#16 = .illegal .operandBits ∧ decode 0x1100#16 = .illegal .reservedBits
      ∧ decode 0x2F31#16 = .illegal .reservedBits ∧ decode 0x8010#16 = .illegal .operandBits
      ∧ decode 0xC000#16 = .illegal .reservedOp := by decide

/-- The same words by the predicate of R55. -/
theorem test_legal_refuses :
    legal 0x0001#16 = false ∧ legal 0x1100#16 = false ∧ legal 0x2F31#16 = false ∧ legal 0x8010#16 = false
      ∧ legal 0xC000#16 = false ∧ legal 0xF0FF#16 = false := by decide

/-- R61's examples. -/
theorem test_encode_examples :
    encode .init = 0x1000#16 ∧ encode (.upd 0x31#8) = 0x2031#16 ∧ encode (.failio 0x05#8) = 0x4005#16
      ∧ encode (.rdhex 15#4) = 0x800F#16 ∧ encode (.rdth 0x80#8) = 0x9080#16 := by decide

theorem test_decodeTableWord :
    decodeTableWord 16 0x8005 = some (.rdhex 5#4) ∧ decodeTableWord 16 0xC000 = none
      ∧ decodeTableWord 16 0x12000 = none := by decide

/-- No two rows of the opcode table share a word: they differ where both masks look. -/
theorem test_opcodeTable_disjoint :
    opcodeTable.Pairwise fun r q => r.pattern &&& q.mask ≠ q.pattern &&& r.mask := by decide

/-! ## Assembler text (R61's examples and refusals) -/

theorem test_asm_init : assembleText ['I', 'N', 'I', 'T'] = .command .init := by decide
theorem test_asm_hex_with_comment :
    assembleText ['U', 'P', 'D', ' ', '0', 'x', '3', '1', ' ', ';', ' ', 'a'] = .command (.upd 0x31#8) := by decide
theorem test_asm_decimal : assembleText ['R', 'D', 'H', 'E', 'X', ' ', '1', '5'] = .command (.rdhex 15#4) := by decide
theorem test_asm_refuses_range : assembleText ['R', 'D', 'H', 'E', 'X', ' ', '1', '6'] = .refused := by decide
theorem test_asm_refuses_missing : assembleText ['U', 'P', 'D'] = .refused := by decide
theorem test_asm_comment_line : assembleText [';', ' ', 'U', 'P', 'D'] = .blank := by decide

/-! ## The shift, the tables, the update -/

/-- V-F1-4, V-F1-5 and V-F1-9. -/
theorem test_shift1 :
    shift1 (0x00000001#32, 0x00000001#32) = (0xD8000000#32, 0x80000000#32)
      ∧ shift1 (0xFFFFFFFF#32, 0xFFFFFFFF#32) = (0xA7FFFFFF#32, 0xFFFFFFFF#32)
      ∧ shift1 (0x00000003#32, 0x00000001#32) = (0xD8000001#32, 0x80000000#32) := by decide

/-- V-F2-3. -/
theorem test_tables :
    tableHigh 0x01#8 = 0x01B00000#32 ∧ tableHigh 0x39#8 = 0x21300000#32 ∧ tableHigh 0xAA#8 = 0xE0E00000#32
      ∧ tableHigh 0xFF#8 = 0x90900000#32 ∧ tableLow 0xFF#8 = 0#32 := by decide

/-- V-F3-10 and V-F3-14 (90_conflicts.md C4). -/
theorem test_update :
    update (0x12345678#32, 0x9ABCDEF0#32) 0x00#8 = (0x99123456#32, 0x789ABCDE#32)
      ∧ update (0xAB000000#32, 0x00000000#32) 0x00#8 = (0x00AB0000#32, 0x00000000#32) := by decide

/-- V-F6: the order of bytes matters. -/
theorem test_fold_order :
    fold (0#32, 0#32) [0x31#8, 0x32#8] = (0x2E4CB000#32, 0#32)
      ∧ fold (0#32, 0#32) [0x32#8, 0x31#8] = (0x2C9E6000#32, 0#32) := by decide

/-- V-L4: "123456789", not the catalogue's value (90_conflicts.md C1). -/
theorem test_fold_check_value :
    fold (0#32, 0#32) [0x31#8, 0x32#8, 0x33#8, 0x34#8, 0x35#8, 0x36#8, 0x37#8, 0x38#8, 0x39#8]
      = (0x46A5A938#32, 0x8A5BEFFE#32) := by decide

/-- V-L5: "56789" from (0, 0) is no part of the whole (90_conflicts.md C2). -/
theorem test_fold_second_chunk_alone :
    fold (0#32, 0#32) [0x35#8, 0x36#8, 0x37#8, 0x38#8, 0x39#8] = (0x2110A938#32, 0x8A700000#32) := by decide

/-- V-L3, R109. -/
theorem test_format_example :
    format 0x1#32 0x2#32
      = ['0', '0', '0', '0', '0', '0', '0', '1', '0', '0', '0', '0', '0', '0', '0', '2'] := by decide

/-- V-F7-3: high word first, letters uppercase. -/
theorem test_format_letters :
    format 0x46A5A938#32 0x8A5BEFFE#32
      = ['4', '6', 'A', '5', 'A', '9', '3', '8', '8', 'A', '5', 'B', 'E', 'F', 'F', 'E'] := by decide

/-! ## Commands: cells of the matrix V-F8 -/

theorem test_nop_in_error :
    responseOf (exec .nop errorState) = some ⟨true, 0#32⟩
      ∧ blockOf (exec .nop errorState) = some (0x2CB00000#32, 0#32, 0x0000070B#32) := by decide
theorem test_init_from_error :
    responseOf (exec .init errorState) = some ⟨true, 0#32⟩
      ∧ blockOf (exec .init errorState) = some (0#32, 0#32, 0x00000001#32) := by decide
theorem test_upd_in_active :
    responseOf (exec (.upd 0x31#8) activeState) = some ⟨true, 0#32⟩
      ∧ blockOf (exec (.upd 0x31#8) activeState) = some (0x2C9CB000#32, 0#32, 0x00000001#32) := by decide
theorem test_upd_in_done_is_sequence :
    responseOf (exec (.upd 0x31#8) doneState) = some ⟨false, 0#32⟩
      ∧ blockOf (exec (.upd 0x31#8) doneState) = some (0x2CB00000#32, 0#32, 0x0000000F#32) := by decide
theorem test_fin_in_active :
    responseOf (exec .fin activeState) = some ⟨true, 0#32⟩
      ∧ blockOf (exec .fin activeState) = some (0x2CB00000#32, 0#32, 0x00000002#32) := by decide
theorem test_fin_in_idle_is_sequence :
    responseOf (exec .fin idleState) = some ⟨false, 0#32⟩
      ∧ blockOf (exec .fin idleState) = some (0#32, 0#32, 0x0000000F#32) := by decide
theorem test_failio_in_done :
    responseOf (exec (.failio 0x05#8) doneState) = some ⟨true, 0#32⟩
      ∧ blockOf (exec (.failio 0x05#8) doneState) = some (0x2CB00000#32, 0#32, 0x0000050B#32) := by decide
theorem test_failio_in_error_keeps_first :
    responseOf (exec (.failio 0x05#8) errorState) = some ⟨false, 0#32⟩
      ∧ blockOf (exec (.failio 0x05#8) errorState) = some (0x2CB00000#32, 0#32, 0x0000070B#32) := by decide
theorem test_failinv_in_idle :
    responseOf (exec .failinv idleState) = some ⟨true, 0#32⟩
      ∧ blockOf (exec .failinv idleState) = some (0#32, 0#32, 0x00000007#32) := by decide
theorem test_rdhi :
    responseOf (exec .rdhi checkState) = some ⟨true, 0x46A5A938#32⟩
      ∧ responseOf (exec .rdhi activeState) = some ⟨false, 0#32⟩ := by decide
theorem test_rdlo :
    responseOf (exec .rdlo checkState) = some ⟨true, 0x8A5BEFFE#32⟩
      ∧ responseOf (exec .rdlo errorState) = some ⟨false, 0#32⟩ := by decide
/-- V-F7-2. -/
theorem test_rdhex :
    responseOf (exec (.rdhex 0#4) checkState) = some ⟨true, 0x34#32⟩
      ∧ responseOf (exec (.rdhex 2#4) checkState) = some ⟨true, 0x41#32⟩
      ∧ responseOf (exec (.rdhex 7#4) checkState) = some ⟨true, 0x38#32⟩
      ∧ responseOf (exec (.rdhex 15#4) checkState) = some ⟨true, 0x45#32⟩
      ∧ responseOf (exec (.rdhex 0#4) idleState) = some ⟨false, 0#32⟩ := by decide
theorem test_rdth :
    responseOf (exec (.rdth 0x80#8) errorState) = some ⟨true, 0xD8000000#32⟩
      ∧ responseOf (exec (.rdth 0x55#8) idleState) = some ⟨true, 0x70700000#32⟩ := by decide
theorem test_rdtl : responseOf (exec (.rdtl 0xFF#8) activeState) = some ⟨true, 0#32⟩ := by decide
theorem test_rdst :
    responseOf (exec .rdst errorState) = some ⟨true, 0x0000070B#32⟩
      ∧ responseOf (exec .rdst doneState) = some ⟨true, 0x00000002#32⟩ := by decide

/-! ## Steps -/

/-- P4: an illegal word raises ILLEGAL. -/
theorem test_step_illegal :
    responseOf (step (withEvents [.command 0x0100#16] activeState)) = some ⟨false, 0#32⟩
      ∧ blockOf (step (withEvents [.command 0x0100#16] activeState))
        = some (0x2CB00000#32, 0#32, 0x00000013#32) := by decide

/-- V-F8's last row: an illegal word in ERROR changes nothing. -/
theorem test_step_illegal_in_error :
    blockOf (step (withEvents [.command 0xC000#16] errorState))
      = some (0x2CB00000#32, 0#32, 0x0000070B#32) := by decide

/-- V-F10: reset from ERROR, with no response, then FIN is out of sequence. -/
theorem test_step_reset :
    blockOf (step (withEvents [.reset, .command 0x3000#16] errorState)) = some (0#32, 0#32, 0#32)
      ∧ responseOf (step (withEvents [.reset, .command 0x3000#16] errorState)) = none
      ∧ blockOf (runSteps 2 (withEvents [.reset, .command 0x3000#16] errorState))
        = some (0#32, 0#32, 0x0000000F#32) := by decide

/-- The instance waits when the host sends nothing. -/
theorem test_step_waits : nextOf (step doneState) = some doneState := by decide

/-- The first command after reset is the one placed. -/
theorem test_withFetchWord :
    nextOf (step (State.reset.withFetchWord 16 0x1000)) = nextOf (exec .init State.reset) := by decide

/-- A command to one instance leaves the other, and reset reaches both (R134, R137). -/
theorem test_system :
    (match System.run [.command 0 0x1000#16, .command 1 0x5000#16] (System.reset 2) with
      | .next sys => sys.map status
      | _ => []) = [0x00000001#32, 0x00000007#32]
      ∧ (match System.run [.command 1 0x5000#16, .reset] (System.reset 2) with
        | .next sys => sys.map status
        | _ => []) = [0#32, 0#32] := by decide

/-! ## The hypotheses of the statements can be met -/

theorem witness_StepRunsDecoded :
    (withEvents [.command 0x20FF#16] activeState).events = .command 0x20FF#16 :: []
      ∧ decode 0x20FF#16 = .command (.upd 0xFF#8) := by decide

/-- One word at the edge of each of the four kinds, in a state outside ERROR and in ERROR. -/
theorem witness_IllegalWordFaults :
    legal 0xC000#16 = false ∧ legal 0x0100#16 = false ∧ legal 0xB001#16 = false ∧ legal 0x8010#16 = false
      ∧ (withEvents [.command 0xC000#16] idleState).events = .command 0xC000#16 :: []
      ∧ (withEvents [.command 0xC000#16] idleState).st ≠ .error
      ∧ (withEvents [.command 0xC000#16] errorState).events = .command 0xC000#16 :: []
      ∧ (withEvents [.command 0xC000#16] errorState).st = .error := by decide

theorem witness_WaitsWithoutEvents : idleState.events = [] := by decide

theorem witness_ResetSetsEveryInstance :
    (withEvents [.reset, .command 0xB000#16] errorState).events = .reset :: [.command 0xB000#16] := by decide

/-- FIN and UPD for the first clause, and one command of each kind for the second. -/
theorem witness_FirstCommandAfterReset :
    (withEvents [.reset, .command 0x3000#16] errorState).events = .reset :: .command (encode .fin) :: []
      ∧ (withEvents [.reset, .command 0x20FF#16] doneState).events
        = .reset :: .command (encode (.upd 0xFF#8)) :: []
      ∧ (withEvents [.reset, .command 0xB000#16] doneState).events = .reset :: .command (encode .rdst) :: []
      ∧ (withEvents [.reset, .command 0x4000#16] doneState).events
        = .reset :: .command (encode (.failio 0x00#8)) :: [] := by decide

theorem witness_OneResponsePerCommand :
    (withEvents [.command 0xFFFF#16] idleState).events = .command 0xFFFF#16 :: []
      ∧ (withEvents [.command 0x9000#16] idleState).events = .command 0x9000#16 :: [] := by decide

theorem witness_NopResult :
    (0x0001#16 : CommandWord).extractLsb' 12 4 = 0x0#4 ∧ (0x0001#16 : CommandWord) ≠ 0x0000#16
      ∧ (0x0FFF#16 : CommandWord).extractLsb' 12 4 = 0x0#4 ∧ (0x0FFF#16 : CommandWord) ≠ 0x0000#16 := by decide

theorem witness_InitResult :
    ∃ t, errorState.st = .error ∧ exec .init errorState = .next t ∧ t.st ≠ .error := ⟨_, rfl, rfl, by decide⟩

/-- The four states of the lifecycle clauses of UPD, FIN, FAILIO, FAILINV and the result reads. -/
theorem witness_lifecycle_clauses :
    idleState.st = .idle ∧ activeState.st = .active ∧ doneState.st = .done ∧ errorState.st = .error
      ∧ idleState.st ≠ .error ∧ activeState.st ≠ .error ∧ doneState.st ≠ .error
      ∧ idleState.st ≠ .done ∧ activeState.st ≠ .done ∧ errorState.st ≠ .done := by decide

theorem witness_UpdResult_index_zero : (0xFE#8 : Byte) = checkState.lo.extractLsb' 0 8 := by decide

theorem witness_FinResult_after_init : ∃ t, exec .init doneState = .next t := ⟨_, rfl⟩

theorem witness_FailioResult_no_result :
    (∃ t, exec (.failio 0x00#8) doneState = .next t)
      ∧ (Instr.rdhex 15#4 = .rdhi ∨ Instr.rdhex 15#4 = .rdlo ∨ ∃ k, Instr.rdhex 15#4 = .rdhex k) :=
  ⟨⟨_, rfl⟩, .inr (.inr ⟨_, rfl⟩)⟩

/-- One command of each shape in the hypothesis. -/
theorem witness_ChecksumCommandsGiveNoData :
    (Instr.failinv ∈ [Instr.nop, .init, .fin, .failinv] ∧ ∃ t, exec .failinv errorState = .next t)
      ∧ ((∃ b, Instr.failio 0xFF#8 = .upd b ∨ Instr.failio 0xFF#8 = .failio b)
        ∧ ∃ t, exec (.failio 0xFF#8) activeState = .next t)
      ∧ ((∃ b, Instr.upd 0#8 = .upd b ∨ Instr.upd 0#8 = .failio b) ∧ ∃ t, exec (.upd 0#8) idleState = .next t) :=
  ⟨⟨by decide, _, rfl⟩, ⟨⟨_, .inr rfl⟩, _, rfl⟩, ⟨⟨_, .inl rfl⟩, _, rfl⟩⟩

theorem witness_ChecksumCommandFrame :
    (∃ t, exec .nop doneState = .next t) ∧ (∃ t, exec .init doneState = .next t)
      ∧ (∃ t, exec (.failio 0x00#8) doneState = .next t)
      ∧ (activeState.st = .active ∧ ∃ t, exec (.upd 0xFF#8) activeState = .next t)
      ∧ (doneState.st ≠ .active ∧ ∃ t, exec (.upd 0xFF#8) doneState = .next t)
      ∧ (activeState.st = .active ∧ ∃ t, exec .fin activeState = .next t) :=
  ⟨⟨_, rfl⟩, ⟨_, rfl⟩, ⟨_, rfl⟩, ⟨rfl, _, rfl⟩, ⟨by decide, _, rfl⟩, ⟨rfl, _, rfl⟩⟩

theorem witness_RdhexResult_illegal :
    (0x8010#16 : CommandWord).extractLsb' 12 4 = 0x8#4 ∧ (0x8010#16 : CommandWord).extractLsb' 4 4 ≠ 0#4 := by decide

theorem witness_RdstResult :
    doneState.st = .done ∧ StatusInv doneState ∧ idleState.st = .idle ∧ StatusInv idleState := by decide

theorem witness_StatusLayout : StatusInv errorState ∧ (status errorState).extractLsb' 8 8 ≠ 0#8 := by decide

theorem witness_ReadFrame :
    (Instr.rdst ∈ [Instr.nop, .rdhi, .rdlo, .rdst] ∧ ∃ t, exec .rdst errorState = .next t)
      ∧ ((∃ k, Instr.rdhex 15#4 = .rdhex k) ∧ ∃ t, exec (.rdhex 15#4) doneState = .next t)
      ∧ ((∃ j, Instr.rdtl 0xFF#8 = .rdth j ∨ Instr.rdtl 0xFF#8 = .rdtl j)
        ∧ ∃ t, exec (.rdtl 0xFF#8) idleState = .next t) :=
  ⟨⟨by decide, _, rfl⟩, ⟨⟨_, rfl⟩, _, rfl⟩, ⟨⟨_, .inr rfl⟩, _, rfl⟩⟩

theorem witness_ReadingDigitsGivesFormat : checkState.st = .done := by decide

theorem witness_FirstErrorWins :
    ∃ t, errorState.st = .error
      ∧ (withEvents [.command 0x4005#16] errorState).events = .command 0x4005#16 :: []
      ∧ HostEvent.command 0x4005#16 ≠ .reset ∧ HostEvent.command 0x4005#16 ≠ .command (encode .init)
      ∧ step (withEvents [.command 0x4005#16] errorState) = .next t :=
  ⟨_, rfl, rfl, by decide, by decide, rfl⟩

/-- Both ways out of ERROR, and a fault in it. -/
theorem witness_OnlyInitOrResetLeavesError :
    errorState.st = .error
      ∧ (∃ t, step (withEvents [.reset] errorState) = .next t ∧ t.st ≠ .error)
      ∧ ∃ t, step (withEvents [.command 0x1000#16] errorState) = .next t ∧ t.st ≠ .error :=
  ⟨rfl, ⟨_, rfl, by decide⟩, ⟨_, rfl, by decide⟩⟩

theorem witness_CommandsInError :
    errorState.st = .error ∧ legal 0xC000#16 = false
      ∧ Instr.fin ∈ [Instr.fin, .failinv, .rdhi, .rdlo]
      ∧ (∃ b, Instr.upd 0#8 = .upd b ∨ Instr.upd 0#8 = .failio b) ∧ ∃ k, Instr.rdhex 15#4 = .rdhex k :=
  ⟨rfl, by decide, by decide, ⟨_, .inl rfl⟩, ⟨_, rfl⟩⟩

/-- One step into ERROR for each error kind. -/
theorem witness_ErrorOrigins :
    (idleState.st ≠ .error ∧ ∃ t, step (withEvents [.command (encode .failinv)] idleState) = .next t ∧ t.st = .error)
      ∧ (∃ t, step (withEvents [.command (encode (.failio 0xFF#8))] idleState) = .next t ∧ t.st = .error)
      ∧ (∃ t, step (withEvents [.command (encode (.upd 0x31#8))] doneState) = .next t ∧ t.st = .error)
      ∧ ∃ t, legal 0xF0FF#16 = false ∧ step (withEvents [.command 0xF0FF#16] activeState) = .next t
        ∧ t.st = .error :=
  ⟨⟨by decide, _, rfl, by decide⟩, ⟨_, rfl, by decide⟩, ⟨_, rfl, by decide⟩, ⟨_, by decide, rfl, by decide⟩⟩

theorem witness_ErrorsArePrecise :
    ∃ t, activeState.st ≠ .error ∧ step (withEvents [.command 0x5000#16] activeState) = .next t ∧ t.st = .error :=
  ⟨_, by decide, rfl, by decide⟩

theorem witness_StatusInvariantKept :
    ∃ t, StatusInv (withEvents [.command 0x4005#16] activeState)
      ∧ step (withEvents [.command 0x4005#16] activeState) = .next t := ⟨_, by decide, rfl⟩

theorem witness_IdleRegisterKept :
    ∃ t, IdleRegisterInv (withEvents [.reset] activeState)
      ∧ step (withEvents [.reset] activeState) = .next t ∧ t.st = .idle := ⟨_, by decide, rfl, by decide⟩

/-- A state of each kind that V-F9 lists. -/
theorem witness_StatusValues :
    StatusInv idleState ∧ StatusInv activeState ∧ StatusInv doneState ∧ StatusInv errorState
      ∧ StatusInv (errorWith .invalidInput 0#8)
      ∧ StatusInv (errorWith .ioFailure 0xFF#8)
      ∧ StatusInv (errorWith .sequence 0#8)
      ∧ StatusInv (errorWith .illegal 0#8) :=
  ⟨by decide, by decide, by decide, by decide, by decide, by decide, by decide, by decide⟩

theorem witness_ResultStableWhileDone :
    ∃ t, checkState.st = .done ∧ step (withEvents [.command 0x6000#16] checkState) = .next t ∧ t.st = .done :=
  ⟨_, rfl, rfl, by decide⟩

/-- Two states that differ in the register, for each clause. -/
theorem witness_RegisterHiddenOutsideDone :
    SameStatus activeState { activeState with hi := 0#32 } ∧ activeState.st ≠ .done
      ∧ SameStatus errorState { errorState with hi := 0#32, lo := 0xFFFFFFFF#32 } ∧ errorState.st = .error
      ∧ SameStatus idleState { idleState with lo := 0xFFFFFFFF#32 } ∧ idleState.st = .idle
      ∧ errorState.events = ({ errorState with hi := 0#32 } : State).events
      ∧ errorState.responses = ({ errorState with hi := 0#32 } : State).responses := by decide

theorem witness_FoldIsLinear : [0x31#8, 0x80#8].length = [0x61#8, 0xFF#8].length := by decide

theorem witness_ChunkedFold :
    activeState.st = .active
      ∧ ∀ i ∈ [Instr.upd 0x35#8, .rdst, .nop, .rdth 0xFF#8, .rdtl 0x00#8, .upd 0x36#8],
        i ∈ [Instr.nop, .rdst] ∨ ∃ b, i = .upd b ∨ i = .rdth b ∨ i = .rdtl b := by
  refine ⟨rfl, fun i hi => ?_⟩
  simp only [List.mem_cons, List.not_mem_nil, or_false] at hi
  rcases hi with rfl | rfl | rfl | rfl | rfl | rfl
  case inr.inl => exact .inl (by decide)
  case inr.inr.inl => exact .inl (by decide)
  all_goals exact .inr ⟨_, by first | exact .inl rfl | exact .inr (.inl rfl) | exact .inr (.inr rfl)⟩

theorem witness_ComputationLeavesFold :
    (withEvents [.command 0x1000#16, .command 0x2061#16, .command 0x3000#16, .command 0xB000#16] errorState).events
      = (computeCommands (.ending [0x61#8])).map (fun i => .command (encode i)) ++ [.command 0xB000#16] := by decide

/-- A state for each clause. -/
theorem witness_ResultOfEachState :
    doneState.st = .done ∧ errorState.st = .error ∧ errorState.err = .ioFailure
      ∧ ({ errorState with err := .invalidInput } : State).err = .invalidInput
      ∧ ({ errorState with err := .sequence } : State).err = .sequence
      ∧ ({ errorState with err := .illegal } : State).err = .illegal
      ∧ idleState.st = .idle ∧ activeState.st = .active := by decide

/-- A run of two instances, and events each of which has its instance. -/
theorem witness_InstancesAreIndependent :
    (∃ sys, System.run [.command 1 0x1000#16, .reset, .command 0 0x5000#16] (System.reset 2) = .next sys)
      ∧ (System.reset 2)[1]? = some State.reset
      ∧ ∀ k word, SystemEvent.command k word ∈ [SystemEvent.command 1 0x1000#16, .reset] → k < (System.reset 2).length := by
  refine ⟨⟨_, rfl⟩, rfl, fun k word h => ?_⟩
  simp at h
  obtain ⟨rfl, -⟩ := h
  decide

/-- A line for each clause: accepted, an operand on a NONE form, a missing one, a digit of 16, a byte of 256. -/
theorem witness_AssemblerChecks :
    AsmLine.wellFormed ⟨.rdhex, some 15⟩ = true ∧ Mnemonic.form .rdst = .none ∧ Mnemonic.form .upd ≠ .none
      ∧ Mnemonic.form .rdhex = .digit ∧ 16 ≤ 16 ∧ 256 ≤ 256 := by decide

end Sys2Proof.Tests
end

/-! The family of 10_state.md: STATUS read field by field, and the record of responses as data that no step reads. -/

namespace Sys2Proof.Machine

/-! ## STATUS (10_state.md R23) -/

/-- STATUS as a number. Its fields do not overlap, so the concatenation of R23 is a sum. -/
theorem status_toNat (s : State) :
    (status s).toNat = s.st.code.toNat + 4 * s.err.code.toNat + 256 * s.cause.toNat := by
  have hst : s.st.code.toNat < 2 ^ 2 := s.st.code.isLt
  have herr : (s.cause ++ 0#3 ++ s.err.code).toNat = s.cause.toNat * 2 ^ 6 + s.err.code.toNat := by
    rw [BitVec.toNat_append, ← Nat.shiftLeft_add_eq_or_of_lt s.err.code.isLt, BitVec.toNat_append]
    simp only [BitVec.toNat_ofNat, Nat.zero_mod, Nat.or_zero, Nat.shiftLeft_eq]
    omega
  rw [status, BitVec.toNat_setWidth_of_le (by decide), BitVec.toNat_append,
    ← Nat.shiftLeft_add_eq_or_of_lt hst, Nat.shiftLeft_eq, herr]
  omega

/-- A field of STATUS, bits `start + len - 1` down to `start`, is read off its number, given the fields' ranges. -/
theorem status_extractLsb'_eq {s : State} {start len : Nat} {field : BitVec len}
    (h : s.st.code.toNat < 4 → s.err.code.toNat < 8 → s.cause.toNat < 256 →
      (s.st.code.toNat + 4 * s.err.code.toNat + 256 * s.cause.toNat) / 2 ^ start % 2 ^ len = field.toNat) :
    (status s).extractLsb' start len = field := by
  apply BitVec.eq_of_toNat_eq
  rw [BitVec.extractLsb'_toNat, status_toNat, Nat.shiftRight_eq_div_pow]
  exact h s.st.code.isLt s.err.code.isLt s.cause.isLt

@[simp] theorem status_st (s : State) : (status s).extractLsb' 0 2 = s.st.code :=
  status_extractLsb'_eq fun _ _ _ => by omega

@[simp] theorem status_err (s : State) : (status s).extractLsb' 2 3 = s.err.code :=
  status_extractLsb'_eq fun _ _ _ => by omega

@[simp] theorem status_reserved_low (s : State) : (status s).extractLsb' 5 3 = 0#3 :=
  status_extractLsb'_eq fun _ _ _ => by simp only [BitVec.toNat_ofNat]; omega

@[simp] theorem status_cause (s : State) : (status s).extractLsb' 8 8 = s.cause :=
  status_extractLsb'_eq fun _ _ _ => by omega

@[simp] theorem status_reserved_high (s : State) : (status s).extractLsb' 16 16 = 0#16 :=
  status_extractLsb'_eq fun _ _ _ => by simp only [BitVec.toNat_ofNat]; omega

theorem errCode_code_le (e : ErrCode) : e.code ≤ 4#3 := by
  cases e <;> decide

/-- Settles O29: the sum and the fields are those of any state; the CAUSE clause is the last of the invariants of R24. -/
theorem statusLayout : Obligations.StatusLayout := by
  unfold Obligations.StatusLayout
  refine ⟨fun s => ⟨?sum, status_st s, status_err s, status_reserved_low s, status_cause s,
    status_reserved_high s, ?errBound, ?causeClause⟩, rfl⟩
  case sum =>
    rw [status_toNat]
    cases s.st <;> cases s.err <;> rfl
  case errBound =>
    rw [status_err]
    exact errCode_code_le s.err
  case causeClause =>
    rw [status_cause, status_err]
    rintro ⟨-, -, onlyIoFailure⟩ hcause
    rw [onlyIoFailure hcause]
    rfl

/-! ## Every step and every run completes (70_reset_and_hazards.md R145) -/

theorem runCommand_of_command {c : CommandWord} {i : Instr} (h : decode c = .command i) (s : State) :
    runCommand c s = exec i s := by
  rw [runCommand, h]

theorem runCommand_of_illegal {c : CommandWord} {why : IllegalReason} (h : decode c = .illegal why) (s : State) :
    runCommand c s = .next (respond false 0#32 (raiseFault .illegal 0#8 s)) := by
  rw [runCommand, h]
  exact illegalWord_eq s

theorem runCommand_total (c : CommandWord) (s : State) : ∃ t, runCommand c s = .next t := by
  cases h : decode c with
  | command i => exact ⟨_, (runCommand_of_command h s).trans (exec_eq i s)⟩
  | illegal why => exact ⟨_, runCommand_of_illegal h s⟩

theorem react_total (e : HostEvent) (s : State) : ∃ t, react e s = .next t := by
  cases e with
  | reset => exact ⟨_, rfl⟩
  | command c => exact runCommand_total c s

theorem step_of_no_event {s : State} (h : s.events = []) : step s = .next s := by
  rw [step, takeEvent, h]

theorem step_of_event {s : State} {e : HostEvent} {rest : List HostEvent} (h : s.events = e :: rest) :
    step s = react e { s with events := rest } := by
  rw [step, takeEvent, h]

theorem step_total (s : State) : ∃ t, step s = .next t := by
  cases h : s.events with
  | nil => exact ⟨s, step_of_no_event h⟩
  | cons e rest => simpa only [step_of_event h] using react_total e { s with events := rest }

theorem runSteps_total (n : Nat) (s : State) : ∃ t, runSteps n s = .next t := by
  induction n generalizing s with
  | zero => exact ⟨s, runSteps_zero s⟩
  | succ n ih =>
    obtain ⟨t, ht⟩ := step_total s
    simpa only [runSteps_succ n ht] using ih t

/-! ## The record of responses is not read (10_state.md R29) -/

/-- The state in which the responses `past` had been given before those it records. -/
def withPast (past : List Response) (s : State) : State := { s with responses := past ++ s.responses }

section
variable (past : List Response) (s : State)

@[simp] theorem withPast_hi : (withPast past s).hi = s.hi := rfl
@[simp] theorem withPast_lo : (withPast past s).lo = s.lo := rfl
@[simp] theorem withPast_st : (withPast past s).st = s.st := rfl
@[simp] theorem withPast_events : (withPast past s).events = s.events := rfl
@[simp] theorem status_withPast : status (withPast past s) = status s := rfl

@[simp] theorem respond_withPast (ok : Bool) (data : Word) :
    respond ok data (withPast past s) = withPast past (respond ok data s) := by
  simp [respond, withPast]

@[simp] theorem openComputation_withPast : openComputation (withPast past s) = withPast past (openComputation s) := rfl

@[simp] theorem setRegister_withPast (r : Word × Word) :
    setRegister r (withPast past s) = withPast past (setRegister r s) := rfl

@[simp] theorem finish_withPast : finish (withPast past s) = withPast past (finish s) := rfl

@[simp] theorem resetBlock_withPast : resetBlock (withPast past s) = withPast past (resetBlock s) := rfl

@[simp] theorem raiseFault_withPast (code : ErrCode) (cause : Byte) :
    raiseFault code cause (withPast past s) = withPast past (raiseFault code cause s) := by
  unfold raiseFault
  rw [withPast_st]
  cases s.st <;> rfl

end

theorem exec_withPast {i : Instr} {s t : State} (past : List Response) (h : exec i s = .next t) :
    exec i (withPast past s) = .next (withPast past t) := by
  rw [exec_eq] at h ⊢
  obtain rfl := Host.Outcome.next.inj h
  cases i <;> simp only [withPast_hi, withPast_lo, withPast_st, status_withPast, respond_withPast,
    openComputation_withPast, setRegister_withPast, finish_withPast, raiseFault_withPast, apply_ite (withPast past)]

theorem runCommand_withPast {c : CommandWord} {s t : State} (past : List Response) (h : runCommand c s = .next t) :
    runCommand c (withPast past s) = .next (withPast past t) := by
  cases hc : decode c with
  | command i =>
    rw [runCommand_of_command hc] at h ⊢
    exact exec_withPast past h
  | illegal why =>
    rw [runCommand_of_illegal hc] at h ⊢
    obtain rfl := Host.Outcome.next.inj h
    rw [raiseFault_withPast, respond_withPast]

theorem react_withPast {e : HostEvent} {s t : State} (past : List Response) (h : react e s = .next t) :
    react e (withPast past s) = .next (withPast past t) := by
  cases e with
  | reset =>
    obtain rfl := Host.Outcome.next.inj h
    exact congrArg _ (resetBlock_withPast past s)
  | command c => exact runCommand_withPast past h

/-- A step commutes with putting earlier responses before those recorded. -/
theorem step_withPast {s t : State} (past : List Response) (h : step s = .next t) :
    step (withPast past s) = .next (withPast past t) := by
  cases he : s.events with
  | nil =>
    rw [step_of_no_event he] at h
    obtain rfl := Host.Outcome.next.inj h
    exact step_of_no_event he
  | cons e rest =>
    rw [step_of_event he] at h
    have hpast : (withPast past s).events = e :: rest := he
    rw [step_of_event hpast]
    exact react_withPast past h

theorem runSteps_withPast {n : Nat} {s t : State} (past : List Response) (h : runSteps n s = .next t) :
    runSteps n (withPast past s) = .next (withPast past t) := by
  induction n generalizing s with
  | zero =>
    obtain rfl := Host.Outcome.next.inj h
    rfl
  | succ n ih =>
    obtain ⟨u, hu⟩ := step_total s
    rw [runSteps_succ n hu] at h
    rw [runSteps_succ n (step_withPast past hu)]
    exact ih h

theorem withPast_no_responses (s : State) : withPast s.responses { s with responses := [] } = s := by
  simp [withPast]

/-- Settles O46: a state is the one with no response given yet, its responses put before, and runs commute with that. -/
theorem responsesAreNotRead : Obligations.ResponsesAreNotRead := by
  unfold Obligations.ResponsesAreNotRead
  intro s n
  obtain ⟨u, hu⟩ := runSteps_total n { s with responses := [] }
  have ht : runSteps n s = .next (withPast s.responses u) := by
    simpa only [withPast_no_responses] using runSteps_withPast s.responses hu
  exact ⟨withPast s.responses u, u, ht, hu, ⟨rfl, rfl, rfl, rfl, rfl⟩, rfl, rfl⟩

end Sys2Proof.Machine

namespace Sys2Proof.Machine

/-! ## The zero entries of the tables (40_shift_register.md R74)

The zero register is a fixed point of the one-bit shift. The zero entries are its iterates, and an update that looks one
of them up adds nothing. -/

theorem shift1_zero : shift1 (0#32, 0#32) = (0#32, 0#32) := by decide

theorem iterate_fixed {α : Type} {f : α → α} {x : α} (h : f x = x) (n : Nat) : iterate f n x = x := by
  induction n with
  | zero => rfl
  | succ n ih => rw [iterate_succ, h, ih]

theorem tableEntry_zero : tableEntry 0#8 = (0#32, 0#32) :=
  iterate_fixed shift1_zero 8

@[simp] theorem tableHigh_zero : tableHigh 0#8 = 0#32 := congrArg Prod.fst tableEntry_zero

@[simp] theorem tableLow_zero : tableLow 0#8 = 0#32 := congrArg Prod.snd tableEntry_zero

theorem update_zero : update (0#32, 0#32) 0#8 = (0#32, 0#32) := by
  simp [update]

/-- Settles O49: the zero register is a fixed point of the shift, so the entries looked up by the update are zero. -/
theorem zeroEntries : Obligations.ZeroEntries := by
  unfold Obligations.ZeroEntries
  exact ⟨tableHigh_zero, tableLow_zero, update_zero⟩

end Sys2Proof.Machine

/-! The family of 41_checksum.md: the update on the 64-bit register, and what the commands NOP to FAILINV do in each
lifecycle state. -/

namespace Sys2Proof

/-- A word is its opcode with a zero ARG, or-ed with ARG (30_encoding.md R51). -/
theorem commandWord_eq_or (op : Nibble) (arg : Byte) :
    commandWord op arg = commandWord op 0#8 ||| arg.setWidth 16 := by
  ext i h
  simp only [commandWord, ← BitVec.getLsbD_eq_getElem, BitVec.getLsbD_append, BitVec.getLsbD_or,
    BitVec.getLsbD_setWidth]
  by_cases h8 : i < 8
  · simp [h8, h]
  · simp [h8, BitVec.getLsbD_of_ge arg i (by omega)]

/-- NOP is of form NONE: a legal word with OP 0 has ARG 0 (30_encoding.md R55). -/
theorem fields_zero_of_legal {c : CommandWord} (hop : opField c = 0#4) (h : legal c = true) :
    rsvField c = 0#4 ∧ argField c = 0#8 := by
  unfold opField at hop
  simpa [legal, hop, rsvField, argField] using h

theorem eq_zero_of_legal_of_opField_zero {c : CommandWord} (hop : opField c = 0#4) (h : legal c = true) :
    c = 0x0000#16 := by
  obtain ⟨hrsv, harg⟩ := fields_zero_of_legal hop h
  rw [← commandWord_fields c hrsv, hop, harg]
  rfl

end Sys2Proof

namespace Sys2Proof.Machine

/-! ## The update on the 64-bit register (41_checksum.md R84, R86) -/

theorem reg64_xor (hi₁ lo₁ hi₂ lo₂ : Word) :
    reg64 (hi₁ ^^^ hi₂) (lo₁ ^^^ lo₂) = reg64 hi₁ lo₁ ^^^ reg64 hi₂ lo₂ :=
  BitVec.xor_append.symm

theorem lowByteMask_getLsbD (n : Nat) : (0xFF#32).getLsbD n = decide (n < 8) := by
  rw [show 0xFF#32 = (BitVec.allOnes 8).setWidth 32 from rfl, BitVec.getLsbD_setWidth, BitVec.getLsbD_allOnes]
  by_cases h : n < 8
  · simp [h, show n < 32 by omega]
  · simp [h]

/-- A 64-bit shift by 8 on the halves: the low byte of HI enters at the top of LO. -/
theorem reg64_ushiftRight_eight (hi lo : Word) :
    reg64 hi lo >>> 8 = reg64 (hi >>> 8) ((lo >>> 8) ||| ((hi &&& 0xFF#32) <<< 24)) := by
  ext i h
  simp only [← BitVec.getLsbD_eq_getElem, BitVec.getLsbD_ushiftRight, reg64_getLsbD, BitVec.getLsbD_or,
    BitVec.getLsbD_shiftLeft, BitVec.getLsbD_and, lowByteMask_getLsbD]
  by_cases h24 : i < 24
  · simp [h24, show 8 + i < 32 by omega, show i < 32 by omega]
  by_cases h32 : i < 32
  · simp [h24, h32, show ¬ 8 + i < 32 by omega, show i - 24 < 8 by omega, show 8 + i - 32 = i - 24 by omega,
      BitVec.getLsbD_of_ge lo (8 + i) (by omega)]
  · simp [h32, show ¬ 8 + i < 32 by omega, show 8 + i - 32 = 8 + (i - 32) by omega]

@[simp] theorem reg64_setWidth_eight (hi lo : Word) : (reg64 hi lo).setWidth 8 = lo.setWidth 8 := by
  unfold reg64
  rw [BitVec.setWidth_append, dif_pos (by decide)]

/-- The index the update looks up. -/
theorem update_index (lo : Word) (b : Byte) :
    ((lo ^^^ b.setWidth 32) &&& 0xFF#32).setWidth 8 = lo.setWidth 8 ^^^ b := by
  have hmask : (0xFF#32).setWidth 8 = BitVec.allOnes 8 := rfl
  rw [BitVec.setWidth_and, BitVec.setWidth_xor, hmask, BitVec.and_allOnes,
    BitVec.setWidth_setWidth_of_le b (by decide), BitVec.setWidth_eq]

theorem reg64_update (hi lo : Word) (b : Byte) :
    reg64 (update (hi, lo) b).1 (update (hi, lo) b).2 = updateLong (reg64 hi lo) b := by
  simp only [update, updateLong, update_index, reg64_xor, reg64_ushiftRight_eight, reg64_setWidth_eight]
  rfl

/-- A byte equal to the low byte of the register looks up entry 0, which is zero. -/
theorem updateLong_low_byte (x : Long) : updateLong x (x.setWidth 8) = x >>> 8 := by
  have hzero : tableLong 0#8 = 0#64 := by
    rw [tableLong, tableHigh_zero, tableLow_zero]
    rfl
  rw [updateLong, BitVec.xor_self, hzero, BitVec.xor_zero]

theorem reg64_update_low_byte (hi lo : Word) :
    reg64 (update (hi, lo) (lo.extractLsb' 0 8)).1 (update (hi, lo) (lo.extractLsb' 0 8)).2 = reg64 hi lo >>> 8 := by
  rw [reg64_update, ← BitVec.setWidth_eq_extractLsb' (by decide), ← reg64_setWidth_eight hi, updateLong_low_byte]

/-! ## The outcomes the commands share, with the next state written out -/

section
variable {s t : State}

theorem respond_eq (ok : Bool) (data : Word) (s : State) :
    respond ok data s = { s with responses := s.responses ++ [⟨ok, data⟩] } := rfl

theorem outOfSequence_of_error (h : s.st = .error) : outOfSequence s = ignored s := by
  rw [outOfSequence_eq, raiseFault_of_error h, ignored_eq]

theorem outOfSequence_of_not_error (h : s.st ≠ .error) :
    outOfSequence s = .next { s with
      st := .error, err := .sequence, cause := 0#8, responses := s.responses ++ [⟨false, 0#32⟩] } := by
  rw [outOfSequence_eq, raiseFault_of_not_error h, respond_eq]

theorem reportFailure_of_error (code : ErrCode) (cause : Byte) (h : s.st = .error) :
    reportFailure code cause s = ignored s := by
  rw [reportFailure_eq, if_pos h, ignored_eq]

theorem reportFailure_of_not_error (code : ErrCode) (cause : Byte) (h : s.st ≠ .error) :
    reportFailure code cause s = .next { s with
      st := .error, err := code, cause := cause, responses := s.responses ++ [⟨true, 0#32⟩] } := by
  rw [reportFailure_eq, if_neg h, raiseFault_of_not_error h, respond_eq]

/-- A reported failure always ends in ERROR. -/
theorem reportFailure_st {code : ErrCode} {cause : Byte} (h : reportFailure code cause s = .next t) :
    t.st = .error := by
  by_cases hs : s.st = .error
  · rw [reportFailure_of_error code cause hs] at h
    obtain rfl := Host.Outcome.next.inj h
    exact hs
  · rw [reportFailure_of_not_error code cause hs] at h
    obtain rfl := Host.Outcome.next.inj h
    rfl

theorem resultRead_of_not_done (data : Word) (h : s.st ≠ .done) :
    resultRead data s = .next { s with responses := s.responses ++ [⟨false, 0#32⟩] } := by
  rw [resultRead_eq, if_neg h, respond_eq]

/-- RDHI, RDLO and RDHEX are the reads of the result (42_readout.md R111). -/
theorem exec_eq_resultRead {i : Instr} (h : i = .rdhi ∨ i = .rdlo ∨ ∃ k, i = .rdhex k) (s : State) :
    ∃ data, exec i s = resultRead data s := by
  obtain rfl | rfl | ⟨k, rfl⟩ := h
  all_goals exact ⟨_, rfl⟩

theorem exec_upd_of_active (b : Byte) (h : s.st = .active) :
    exec (.upd b) s = .next (respond true 0#32 (setRegister (update (s.hi, s.lo) b) s)) := by
  rw [exec_eq]
  exact congrArg _ (if_pos h)

theorem exec_upd_of_not_active (b : Byte) (h : s.st ≠ .active) : exec (.upd b) s = outOfSequence s := by
  rw [exec_eq]
  exact congrArg _ (if_neg h)

theorem exec_fin_of_active (h : s.st = .active) : exec .fin s = .next (respond true 0#32 (finish s)) := by
  rw [exec_eq]
  exact congrArg _ (if_pos h)

theorem exec_fin_of_not_active (h : s.st ≠ .active) : exec .fin s = outOfSequence s := by
  rw [exec_eq]
  exact congrArg _ (if_neg h)

/-- Every command but INIT keeps ERROR (60_exceptions.md R127). -/
theorem exec_st_of_error {i : Instr} (hs : s.st = .error) (hi : i ≠ .init)
    (h : exec i s = .next t) : t.st = .error := by
  rw [exec_eq] at h
  obtain rfl := Host.Outcome.next.inj h
  cases i with
  | init => contradiction
  | _ => simp [hs]

/-- A command that gives no data in either of its two cases: only the OK bit tells them apart (41_checksum.md R80). -/
theorem respond_ite_noData {p : Prop} [Decidable p] {u v : State} (okU okV : Bool)
    (hu : u.responses = s.responses) (hv : v.responses = s.responses) :
    ∃ ok, (if p then respond okU 0#32 u else respond okV 0#32 v).responses = s.responses ++ [⟨ok, 0#32⟩] := by
  split
  · exact ⟨okU, by rw [respond_responses, hu]⟩
  · exact ⟨okV, by rw [respond_responses, hv]⟩

end

/-- The empty-input result (41_checksum.md R95). -/
theorem format_zero : format 0#32 0#32 = List.replicate 16 '0' := by decide

/-! ## The statements -/

/-- Settles O17: in ERROR "out of sequence" changes nothing, the plain shift is UPDATE_64 with a zero table entry. -/
theorem updResult : Obligations.UpdResult := by
  unfold Obligations.UpdResult
  intro b s
  refine ⟨commandWord_eq_or 0x2#4 b, ?active, ?error, ?sequence, ?lowByte, update_zero⟩
  case active => exact exec_upd_of_active b
  case error =>
    intro h
    rw [exec_upd_of_not_active b (by simp [h]), outOfSequence_of_error h, ignored_eq, respond_eq]
  case sequence =>
    rintro (h | h)
    all_goals rw [exec_upd_of_not_active b (by simp [h]), outOfSequence_of_not_error (by simp [h])]
  case lowByte =>
    rintro rfl
    exact reg64_update_low_byte s.hi s.lo

/-- Settles O21: each of the six commands gives its response with DATA 0 in both branches of `exec_eq`. -/
theorem checksumCommandsGiveNoData : Obligations.ChecksumCommandsGiveNoData := by
  unfold Obligations.ChecksumCommandsGiveNoData
  intro i s t hi ht
  rw [exec_eq] at ht
  obtain rfl := Host.Outcome.next.inj ht
  cases i with
  | nop => exact ⟨true, rfl⟩
  | init => exact ⟨true, rfl⟩
  | upd b => exact respond_ite_noData true false rfl (raiseFault_responses _ _ s)
  | fin => exact respond_ite_noData true false rfl (raiseFault_responses _ _ s)
  | failio code => exact respond_ite_noData false true rfl (raiseFault_responses _ _ s)
  | failinv => exact respond_ite_noData false true rfl (raiseFault_responses _ _ s)
  | _ => simp at hi

/-- Settles O15: NOP's word is the only legal one with OP 0. -/
theorem nopResult : Obligations.NopResult := by
  unfold Obligations.NopResult
  refine ⟨rfl, fun s => exec_eq .nop s, fun c hop hne => ?_⟩
  exact Bool.eq_false_iff.mpr fun hlegal => hne (eq_zero_of_legal_of_opField_zero hop hlegal)

/-- Settles O16: INIT does not look at the state it leaves, and every other command keeps ERROR. -/
theorem initResult : Obligations.InitResult := by
  unfold Obligations.InitResult
  refine ⟨rfl, fun s => exec_eq .init s, fun i s t hs h ht => ?_⟩
  by_contra hi
  exact ht (exec_st_of_error hs hi h)

/-- Settles O18: the cases of FIN are those of UPD, and INIT gives an ACTIVE state with a zero register. -/
theorem finResult : Obligations.FinResult := by
  unfold Obligations.FinResult
  refine ⟨rfl, fun s => ⟨exec_fin_of_active, ?error, ?sequence, ?afterInit⟩⟩
  case error =>
    intro h
    rw [exec_fin_of_not_active (by simp [h]), outOfSequence_of_error h, ignored_eq, respond_eq]
  case sequence =>
    rintro (h | h)
    all_goals rw [exec_fin_of_not_active (by simp [h]), outOfSequence_of_not_error (by simp [h])]
  case afterInit =>
    intro t ht
    rw [exec_eq] at ht
    obtain rfl := Host.Outcome.next.inj ht
    exact ⟨exec_fin_of_active rfl, rfl, rfl, format_zero⟩

/-- Settles O19: FAILIO is a reported failure, after which the state is ERROR and the result reads give nothing. -/
theorem failioResult : Obligations.FailioResult := by
  unfold Obligations.FailioResult
  intro code s
  refine ⟨commandWord_eq_or 0x4#4 code, reportFailure_of_not_error .ioFailure code,
    reportFailure_of_error .ioFailure code, ?noResult⟩
  intro t i ht hi
  have hst : t.st = .error := reportFailure_st ht
  obtain ⟨data, hread⟩ := exec_eq_resultRead hi t
  rw [hread, resultRead_of_not_done data (by simp [hst])]

/-- Settles O20: FAILINV is a reported failure. -/
theorem failinvResult : Obligations.FailinvResult := by
  unfold Obligations.FailinvResult
  exact ⟨rfl, fun s => ⟨reportFailure_of_not_error .invalidInput 0#8, reportFailure_of_error .invalidInput 0#8⟩⟩

end Sys2Proof.Machine

/-! The family of 42_readout.md: what the reads of the result, of the tables and of STATUS respond, and the printed form
of the result as two hexadecimal numbers. -/

namespace Sys2Proof

/-- The operand of form DIGIT reaches the word with its upper bits zero (30_encoding.md R52). -/
theorem encode_rdhex (k : Nibble) : encode (.rdhex k) = 0x8000#16 ||| k.setWidth 16 := by
  have harg : (0#4 ++ k).setWidth 16 = k.setWidth 16 := by
    apply BitVec.eq_of_toNat_eq
    rw [BitVec.toNat_setWidth, BitVec.toNat_setWidth, BitVec.toNat_append]
    simp
  calc encode (.rdhex k) = 0x8000#16 ||| (0#4 ++ k).setWidth 16 := commandWord_eq_or 0x8#4 (0#4 ++ k)
    _ = 0x8000#16 ||| k.setWidth 16 := by rw [harg]

/-- The one check of R55 that a word with OP 8 has to pass, besides a zero RSV. -/
theorem digitUpper_zero_of_legal {c : CommandWord} (hop : c.extractLsb' 12 4 = 0x8#4) (h : legal c = true) :
    c.extractLsb' 4 4 = 0#4 := by
  have hfields : c.extractLsb' 8 4 = 0#4 ∧ c.extractLsb' 4 4 = 0#4 := by simpa [legal, hop] using h
  exact hfields.2

end Sys2Proof

namespace Sys2Proof.Machine

/-! ## The printed digits (42_readout.md R102, R103, R108) -/

/-- The character printed at position `k` of a 64-bit value. -/
def printedDigit (x : Long) (k : Nat) : Char := charOf (hexChar (hexDigit x (BitVec.ofNat 4 k)))

theorem format_eq_printedDigits (hi lo : Word) :
    format hi lo = (List.range' 0 16).map (printedDigit (reg64 hi lo)) := rfl

theorem charOf_hexChar_mem (n : Nibble) :
    charOf (hexChar n)
      ∈ ['0', '1', '2', '3', '4', '5', '6', '7', '8', '9', 'A', 'B', 'C', 'D', 'E', 'F'] := by
  revert n
  decide

/-- The digit codes of R102 read back as their values. -/
theorem digitValue_hexChar (n : Nibble) : digitValue 16 (charOf (hexChar n)) = some n.toNat := by
  revert n
  decide

theorem hexDigit_eq_shift (x : Long) (k : Nibble) : hexDigit x k = (x >>> (60 - 4 * k.toNat)).setWidth 4 :=
  BitVec.setWidth_ushiftRight_eq_extractLsb.symm

/-- Digit `k` as a number, where `r` more digits follow it. -/
theorem hexDigit_toNat (x : Long) {k r : Nat} (h : k + 1 + r = 16) :
    (hexDigit x (BitVec.ofNat 4 k)).toNat = x.toNat / 16 ^ r % 16 := by
  have hk : (BitVec.ofNat 4 k).toNat = k := Nat.mod_eq_of_lt (by omega)
  have hpow : 2 ^ (60 - 4 * k) = 16 ^ r := by
    rw [show 60 - 4 * k = 4 * r by omega, Nat.pow_mul]
  rw [hexDigit, hk, BitVec.extractLsb'_toNat, Nat.shiftRight_eq_div_pow, hpow]

theorem readDigits_nil (base acc : Nat) : readDigits base acc [] = some acc := rfl

theorem readDigits_cons {base d : Nat} {c : Char} (h : digitValue base c = some d) (acc : Nat) (rest : List Char) :
    readDigits base acc (c :: rest) = readDigits base (base * acc + d) rest := by
  rw [readDigits, h]

/-- Reading `n` printed digits from position `m` on, where `r` more follow them, appends them to the number read so
far. -/
theorem readDigits_printedDigits (x : Long) {m n r : Nat} (h : m + n + r = 16) (acc : Nat) :
    readDigits 16 acc ((List.range' m n).map (printedDigit x))
      = some (16 ^ n * acc + x.toNat / 16 ^ r % 16 ^ n) := by
  induction n generalizing m acc with
  | zero => simp [readDigits_nil, Nat.mod_one]
  | succ n ih =>
    have hdigit : digitValue 16 (printedDigit x m) = some (x.toNat / 16 ^ (n + r) % 16) := by
      rw [printedDigit, digitValue_hexChar, hexDigit_toNat x (r := n + r) (by omega)]
    have hhead : x.toNat / 16 ^ (n + r) = x.toNat / 16 ^ r / 16 ^ n := by
      rw [Nat.div_div_eq_div_mul, ← Nat.pow_add, Nat.add_comm r n]
    rw [List.range'_succ, List.map_cons, readDigits_cons hdigit, ih (by omega), hhead, Nat.mod_pow_succ]
    congr 1
    ring

theorem reg64_toNat (hi lo : Word) : (reg64 hi lo).toNat = 2 ^ 32 * hi.toNat + lo.toNat := by
  rw [reg64, BitVec.toNat_append, ← Nat.shiftLeft_add_eq_or_of_lt lo.isLt, Nat.shiftLeft_eq, Nat.mul_comm]

/-- Settles O32: the first 8 digits are the number above `16 ^ 8`, which is HI, and the last 8 the one below. -/
theorem formatIsHex : Obligations.FormatIsHex := by
  unfold Obligations.FormatIsHex
  intro hi lo
  have hlo : lo.toNat < 2 ^ 32 := lo.isLt
  have hhi : hi.toNat < 2 ^ 32 := hi.isLt
  rw [format_eq_printedDigits]
  refine ⟨by simp, ?digits, ?high, ?low⟩
  case digits =>
    intro c hc
    obtain ⟨k, -, rfl⟩ := List.mem_map.mp hc
    exact charOf_hexChar_mem _
  case high =>
    rw [← List.map_take, List.take_range'_of_length_ge (by decide), readDigits_printedDigits _ (r := 8) rfl,
      reg64_toNat]
    congr 1
    omega
  case low =>
    rw [← List.map_drop, List.drop_range', readDigits_printedDigits _ (r := 0) rfl, reg64_toNat]
    congr 1
    omega

/-! ## Reads of the result (42_readout.md R100, R101, R103) -/

theorem resultRead_of_done (data : Word) {s : State} (h : s.st = .done) :
    resultRead data s = .next { s with responses := s.responses ++ [⟨true, data⟩] } := by
  rw [resultRead_eq, if_pos h, respond_eq]

/-- Settles O23: RDHI is a read of the result. -/
theorem rdhiResult : Obligations.RdhiResult := by
  unfold Obligations.RdhiResult
  exact ⟨rfl, fun s => ⟨resultRead_of_done s.hi, resultRead_of_not_done s.hi⟩⟩

/-- Settles O24: RDLO is a read of the result. -/
theorem rdloResult : Obligations.RdloResult := by
  unfold Obligations.RdloResult
  exact ⟨rfl, fun s => ⟨resultRead_of_done s.lo, resultRead_of_not_done s.lo⟩⟩

/-- Settles O25: RDHEX is a read of the result, and a legal word with OP 8 has a zero ARG[7:4]. -/
theorem rdhexResult : Obligations.RdhexResult := by
  unfold Obligations.RdhexResult
  refine ⟨fun k s => ⟨encode_rdhex k, ?done, resultRead_of_not_done _⟩, ?illegal⟩
  case done =>
    intro h
    have hread := resultRead_of_done ((hexChar (hexDigit (reg64 s.hi s.lo) k)).setWidth 32) h
    rwa [hexDigit_eq_shift] at hread
  case illegal =>
    intro c hop hupper
    exact Bool.eq_false_iff.mpr fun hlegal => hupper (digitUpper_zero_of_legal hop hlegal)

/-! ## Reads of the tables (42_readout.md R104, R105)

The proof of 40_shift_register.md R73: the polynomial sets no bit of HI below 27, so over the eight shifts of a table
entry no bit set there reaches bit 0, nothing crosses into LO, and LO is the index shifted out. -/

/-- Bits `n - 1` down to 0 are zero. -/
def ClearBelow (n : Nat) (w : Word) : Prop := ∀ j < n, w.getLsbD j = false

theorem clearBelow_zero (n : Nat) : ClearBelow n 0#32 := fun _ _ => BitVec.getLsbD_zero

theorem clearBelow_polyReversedHigh : ClearBelow 27 polyReversedHigh := by
  unfold ClearBelow
  decide

theorem ClearBelow.xor {n : Nat} {v w : Word} (hv : ClearBelow n v) (hw : ClearBelow n w) :
    ClearBelow n (v ^^^ w) := fun j hj => by
  rw [BitVec.getLsbD_xor, hv j hj, hw j hj, Bool.xor_false]

theorem ClearBelow.mono {m n : Nat} {w : Word} (hmn : m ≤ n) (h : ClearBelow n w) : ClearBelow m w :=
  fun j hj => h j (by omega)

theorem ClearBelow.ushiftRight_one {n : Nat} {w : Word} (h : ClearBelow (n + 1) w) : ClearBelow n (w >>> 1) :=
  fun j hj => by
  rw [BitVec.getLsbD_ushiftRight]
  exact h (1 + j) (by omega)

/-- A shift with no carry out of HI: LO is shifted alone. -/
theorem shift1_low_of_clearBelow {n : Nat} {hi lo : Word} (h : ClearBelow (n + 1) hi) :
    (shift1 (hi, lo)).2 = lo >>> 1 :=
  if_neg (Bool.eq_false_iff.mp (h 0 (by omega)))

theorem shift1_high_clearBelow {n : Nat} {hi : Word} (lo : Word) (hn : n ≤ 27) (h : ClearBelow (n + 1) hi) :
    ClearBelow n (shift1 (hi, lo)).1 := by
  unfold shift1
  dsimp only
  split
  · exact h.ushiftRight_one.xor (clearBelow_polyReversedHigh.mono hn)
  · exact h.ushiftRight_one

/-- `n` shifts from a register whose HI is zero in its low bits: one of them is lost with each shift, and LO is shifted
alone. -/
theorem iterate_shift1_of_clearBelow {n k : Nat} (hn : k + n ≤ 28) {hi lo : Word} (h : ClearBelow (k + n) hi) :
    ClearBelow k (iterate shift1 n (hi, lo)).1 ∧ (iterate shift1 n (hi, lo)).2 = lo >>> n := by
  induction n generalizing hi lo with
  | zero => exact ⟨h, (BitVec.ushiftRight_zero lo).symm⟩
  | succ n ih =>
    obtain ⟨hhigh, hlow⟩ := ih (hi := (shift1 (hi, lo)).1) (lo := (shift1 (hi, lo)).2) (by omega)
      (shift1_high_clearBelow lo (by omega) h)
    rw [iterate_succ]
    refine ⟨hhigh, hlow.trans ?_⟩
    rw [shift1_low_of_clearBelow h, ← BitVec.shiftRight_add, Nat.add_comm 1 n]

theorem tableEntry_clear (i : Byte) :
    ClearBelow 20 (tableEntry i).1 ∧ (tableEntry i).2 = i.setWidth 32 >>> 8 :=
  iterate_shift1_of_clearBelow (by decide) (clearBelow_zero 28)

/-- TL is zero everywhere (40_shift_register.md R73). -/
theorem tableLow_eq_zero (i : Byte) : tableLow i = 0#32 := by
  obtain ⟨-, hlow⟩ := tableEntry_clear i
  rw [tableLow, hlow]
  apply BitVec.eq_of_toNat_eq
  rw [BitVec.toNat_ushiftRight, BitVec.toNat_setWidth_of_le (by decide), Nat.shiftRight_eq_div_pow]
  exact Nat.div_eq_of_lt i.isLt

/-- Settles O26: the read does not look at the state, and entry 0 is zero. -/
theorem rdthResult : Obligations.RdthResult := by
  unfold Obligations.RdthResult
  refine ⟨fun i s => ⟨commandWord_eq_or 0x9#4 i, openRead_eq (tableHigh i) s⟩, fun s => ?_⟩
  have hread := openRead_eq (tableHigh 0#8) s
  rwa [tableHigh_zero] at hread

/-- Settles O27: the read does not look at the state, and no bit of an index is left in LO after eight shifts. -/
theorem rdtlResult : Obligations.RdtlResult := by
  unfold Obligations.RdtlResult
  exact fun i s => ⟨commandWord_eq_or 0xA#4 i, openRead_eq (tableLow i) s, tableLow_eq_zero i⟩

/-! ## The read of STATUS (42_readout.md R106) -/

/-- With no error there is nothing in STATUS but ST. -/
theorem status_of_not_error {s : State} (hinv : StatusInv s) (h : s.st ≠ .error) :
    status s = s.st.code.setWidth 32 := by
  obtain ⟨noError, -, -⟩ := hinv
  obtain ⟨herr, hcause⟩ := noError h
  apply BitVec.eq_of_toNat_eq
  rw [status_toNat, herr, hcause, BitVec.toNat_setWidth_of_le (by decide)]
  rfl

/-- Settles O28: the read does not look at the state, and outside ERROR the status is ST. -/
theorem rdstResult : Obligations.RdstResult := by
  unfold Obligations.RdstResult
  refine ⟨rfl, fun s => ⟨openRead_eq (status s) s, fun h hinv => ?_, fun h hinv => ?_⟩⟩
  all_goals
    rw [status_of_not_error hinv (by simp [h]), h]
    rfl

end Sys2Proof.Machine

/-! The family of 60_exceptions.md: which words are illegal, what ERROR keeps, and what the host makes
of the end state. -/

namespace Sys2Proof

/-! ## The decoder and the encoder (30_encoding.md R54, R60) -/

theorem decode_commandWord (op : Nibble) (arg : Byte) : decode (commandWord op arg) = decodeOp op arg := by
  simp [decode]

/-- Form DIGIT puts the digit into the low half of ARG, where the decoder reads it. -/
theorem digitForm_append (f : Nibble → Instr) (k : Nibble) : digitForm f (0#4 ++ k) = .command (f k) := by
  have hupper : digitUpper (0#4 ++ k) = 0#4 := by revert k; decide
  have hoperand : digitOperand (0#4 ++ k) = k := by revert k; decide
  rw [digitForm, if_pos hupper, hoperand]

@[simp] theorem decode_encode (i : Instr) : decode (encode i) = .command i := by
  rw [encode, decode_commandWord]
  cases i with
  | rdhex k => exact digitForm_append .rdhex k
  | _ => rfl

theorem command_of_noneForm {i j : Instr} {arg : Byte} (h : noneForm i arg = .command j) : j = i ∧ arg = 0#8 := by
  unfold noneForm at h
  split at h
  · next harg => exact ⟨(Decoded.command.inj h).symm, harg⟩
  · contradiction

theorem digitUpper_append_digitOperand (arg : Byte) : digitUpper arg ++ digitOperand arg = arg := by
  revert arg
  decide

theorem command_of_digitForm {f : Nibble → Instr} {j : Instr} {arg : Byte} (h : digitForm f arg = .command j) :
    ∃ k, j = f k ∧ arg = 0#4 ++ k := by
  unfold digitForm at h
  split at h
  · next hupper =>
    have harg := digitUpper_append_digitOperand arg
    rw [hupper] at harg
    exact ⟨digitOperand arg, (Decoded.command.inj h).symm, harg.symm⟩
  · contradiction

/-- OP and ARG are those of the command they decode to. -/
theorem fields_of_decodeOp {op : Nibble} {arg : Byte} {i : Instr} (h : decodeOp op arg = .command i) :
    op = i.mnemonic.opcode ∧ arg = i.arg := by
  unfold decodeOp at h
  split at h
  -- Forms BYTE, CODE and IDX: UPD, FAILIO, RDTH and RDTL.
  case h_3 hop | h_5 hop | h_10 hop | h_11 hop =>
    obtain rfl := Decoded.command.inj h
    exact ⟨BitVec.eq_of_toNat_eq hop, rfl⟩
  -- Form DIGIT: RDHEX.
  case h_9 hop =>
    obtain ⟨k, rfl, rfl⟩ := command_of_digitForm h
    exact ⟨BitVec.eq_of_toNat_eq hop, rfl⟩
  -- A reserved OP.
  case h_13 => contradiction
  -- Form NONE: the rest.
  case h_1 hop | h_2 hop | h_4 hop | h_6 hop | h_7 hop | h_8 hop | h_12 hop =>
    obtain ⟨rfl, rfl⟩ := command_of_noneForm h
    exact ⟨BitVec.eq_of_toNat_eq hop, rfl⟩

theorem encode_of_decode {c : CommandWord} {i : Instr} (h : decode c = .command i) : encode i = c := by
  unfold decode at h
  split at h
  · next hrsv =>
    obtain ⟨hop, harg⟩ := fields_of_decodeOp h
    rw [encode, ← hop, ← harg, commandWord_fields c hrsv]
  · contradiction

/-! ## Legality (30_encoding.md R55 to R58) -/

theorem legal_encode (i : Instr) : legal (encode i) = true := by
  cases i with
  | nop => exact Laws.EncodeLegal.nop
  | init => exact Laws.EncodeLegal.init
  | upd b => exact Laws.EncodeLegal.upd b
  | fin => exact Laws.EncodeLegal.fin
  | failio code => exact Laws.EncodeLegal.failio code
  | failinv => exact Laws.EncodeLegal.failinv
  | rdhi => exact Laws.EncodeLegal.rdhi
  | rdlo => exact Laws.EncodeLegal.rdlo
  | rdhex k => exact Laws.EncodeLegal.rdhex k
  | rdth i => exact Laws.EncodeLegal.rdth i
  | rdtl i => exact Laws.EncodeLegal.rdtl i
  | rdst => exact Laws.EncodeLegal.rdst

/-- The decoder has no command for a word that R55 refuses: a command's word is legal. -/
theorem decode_of_not_legal {c : CommandWord} (h : legal c = false) : ∃ why, decode c = .illegal why := by
  cases hc : decode c with
  | illegal why => exact ⟨why, rfl⟩
  | command i =>
    have hlegal := legal_encode i
    rw [encode_of_decode hc, h] at hlegal
    contradiction

/-- The complement of R55 is the four kinds of R121. Both read OP and, of the other fields, only whether they are zero:
16 values and three bits. -/
theorem legal_eq_false_iff (c : CommandWord) :
    legal c = false ↔
      0xC#4 ≤ c.extractLsb' 12 4
        ∨ c.extractLsb' 8 4 ≠ 0#4
        ∨ (c.extractLsb' 12 4 ∈ [0x0#4, 0x1#4, 0x3#4, 0x5#4, 0x6#4, 0x7#4, 0xB#4] ∧ c.extractLsb' 0 8 ≠ 0#8)
        ∨ (c.extractLsb' 12 4 = 0x8#4 ∧ c.extractLsb' 4 4 ≠ 0#4) := by
  unfold legal
  simp only [← beq_eq_false_iff_ne]
  generalize (c.extractLsb' 8 4 == 0#4) = rsvZero, (c.extractLsb' 0 8 == 0#8) = argZero,
    (c.extractLsb' 4 4 == 0#4) = upperZero
  generalize c.extractLsb' 12 4 = op
  revert op rsvZero argZero upperZero
  decide

end Sys2Proof

namespace Sys2Proof.Machine

/-! ## Illegal words (60_exceptions.md R121) -/

theorem runCommand_of_not_legal {c : CommandWord} (h : legal c = false) (s : State) :
    runCommand c s = .next (respond false 0#32 (raiseFault .illegal 0#8 s)) := by
  obtain ⟨why, hc⟩ := decode_of_not_legal h
  exact runCommand_of_illegal hc s

theorem step_of_not_legal {c : CommandWord} {s : State} {rest : List HostEvent} (h : legal c = false)
    (he : s.events = .command c :: rest) :
    step s = .next (respond false 0#32 (raiseFault .illegal 0#8 { s with events := rest })) :=
  (step_of_event he).trans (runCommand_of_not_legal h _)

/-- Settles O8: the kinds are the complement of R55, the decoder has no command for them, so the step raises
ILLEGAL. -/
theorem illegalWordFaults : Obligations.IllegalWordFaults := by
  unfold Obligations.IllegalWordFaults
  refine fun c => ⟨legal_eq_false_iff c, fun h s rest he => ⟨fun hs => ?_, fun hs => ?_⟩⟩
  · rw [step_of_not_legal h he, raiseFault_of_not_error (s := { s with events := rest }) hs, respond_eq]
  · rw [step_of_not_legal h he, raiseFault_of_error (s := { s with events := rest }) hs, respond_eq]

/-! ## State ERROR (60_exceptions.md R123, R126, R127) -/

section
variable {s t : State}

/-- R126 in one expression: INIT leaves ERROR, some commands answer as in every other state, the rest are ignored. -/
theorem exec_eq_of_error (i : Instr) (hs : s.st = .error) :
    exec i s = .next (match i with
      | .init => respond true 0#32 (openComputation s)
      | .nop => respond true 0#32 s
      | .rdth j => respond true (tableHigh j) s
      | .rdtl j => respond true (tableLow j) s
      | .rdst => respond true (status s) s
      | .upd _ | .fin | .failio _ | .failinv | .rdhi | .rdlo | .rdhex _ => respond false 0#32 s) := by
  rw [exec_eq]
  cases i with
  | upd | fin => simp [hs, raiseFault_of_error]
  | failio | failinv | rdhi | rdlo | rdhex => simp [hs]
  | _ => rfl

theorem sameBlock_respond (ok : Bool) (data : Word) (s : State) : SameBlock s (respond ok data s) :=
  ⟨rfl, rfl, rfl, rfl, rfl⟩

theorem exec_sameBlock_of_error {i : Instr} (hs : s.st = .error) (hi : i ≠ .init) (h : exec i s = .next t) :
    SameBlock s t := by
  rw [exec_eq_of_error i hs] at h
  obtain rfl := Host.Outcome.next.inj h
  cases i with
  | init => contradiction
  | _ => exact sameBlock_respond _ _ s

/-- A step in ERROR keeps the block, unless it is one of the two ways out of R127. -/
theorem step_cases_of_error (hs : s.st = .error) (h : step s = .next t) :
    SameBlock s t
      ∨ (∃ rest, s.events = .reset :: rest ∧ t = resetBlock { s with events := rest })
      ∨ ∃ rest, s.events = .command (encode .init) :: rest
          ∧ t = respond true 0#32 (openComputation { s with events := rest }) := by
  obtain ⟨-, rfl⟩ | hreset | ⟨c, rest, i, he, hc, hexec⟩ | ⟨c, rest, why, he, hc, rfl⟩ := step_cases h
  · exact .inl ⟨rfl, rfl, rfl, rfl, rfl⟩
  · exact .inr (.inl hreset)
  · by_cases hi : i = .init
    · subst hi
      rw [encode_of_decode hc]
      exact .inr (.inr ⟨rest, he, (Host.Outcome.next.inj hexec).symm⟩)
    · exact .inl (exec_sameBlock_of_error (s := { s with events := rest }) hs hi hexec)
  · rw [raiseFault_of_error (s := { s with events := rest }) hs]
    exact .inl (sameBlock_respond false 0#32 { s with events := rest })

end

/-- Settles O35: both ways out of ERROR are excluded, and any other step keeps the block. -/
theorem firstErrorWins : Obligations.FirstErrorWins := by
  unfold Obligations.FirstErrorWins
  intro s t e rest hs he hreset hinit h
  obtain ⟨-, -, hst, herr, hcause⟩ | ⟨_, he', -⟩ | ⟨_, he', -⟩ := step_cases_of_error hs h
  · exact ⟨hst.symm.trans hs, herr.symm, hcause.symm⟩
  · exact absurd (List.cons.inj (he.symm.trans he')).1 hreset
  · exact absurd (List.cons.inj (he.symm.trans he')).1 hinit

/-- Settles O36: a step that keeps the block stays in ERROR, and the two ways out give the states named. -/
theorem onlyInitOrResetLeavesError : Obligations.OnlyInitOrResetLeavesError := by
  unfold Obligations.OnlyInitOrResetLeavesError
  refine ⟨fun s t hs h hne => ?_, fun code cause s hs => raiseFault_of_error hs⟩
  obtain ⟨-, -, hst, -, -⟩ | ⟨rest, he, rfl⟩ | ⟨rest, he, rfl⟩ := step_cases_of_error hs h
  · exact absurd (hst.symm.trans hs) hne
  · exact ⟨rest, .inl ⟨he, rfl⟩⟩
  · exact ⟨rest, .inr ⟨he, rfl, rfl, rfl, rfl, rfl⟩⟩

/-- Settles O37: the commands are the cases of R126's expression, and an illegal word raises nothing in ERROR. -/
theorem commandsInError : Obligations.CommandsInError := by
  unfold Obligations.CommandsInError
  intro s hs
  refine ⟨exec_eq_of_error .init hs, exec_eq_of_error .nop hs, fun i => exec_eq_of_error (.rdth i) hs,
    fun i => exec_eq_of_error (.rdtl i) hs, exec_eq_of_error .rdst hs, ?ignored, ?illegal⟩
  case ignored =>
    intro i hi
    rw [exec_eq_of_error i hs]
    cases i with
    | nop | init | rdth | rdtl | rdst => simp at hi
    | _ => rfl
  case illegal =>
    intro c hc
    rw [runCommand_of_not_legal hc, raiseFault_of_error hs, respond_eq]

/-! ## RESULT (30_encoding.md R63, 60_exceptions.md R128) -/

section
variable {s u : State}

/-- The host sees the response that the command's next state ends with. -/
theorem transact_of_exec {i : Instr} {ok : Bool} {data : Word} (h : exec i s = .next (respond ok data u)) :
    transact i s = some (⟨ok, data⟩, respond ok data u) := by
  simp [transact, runCommand_of_command (decode_encode i), h]

theorem transact_rdst (s : State) : transact .rdst s = some (⟨true, status s⟩, respond true (status s) s) :=
  transact_of_exec (openRead_eq (status s) s)

/-- The response of RDHEX `k` in DONE, where the register is `x` (42_readout.md R103). -/
def digitResponse (x : Long) (k : Nibble) : Response := ⟨true, (hexChar (hexDigit x k)).setWidth 32⟩

theorem responseChar_digitResponse (x : Long) (k : Nibble) :
    responseChar (digitResponse x k) = charOf (hexChar (hexDigit x k)) := by
  rw [responseChar, digitResponse, ← BitVec.setWidth_eq_extractLsb' (by decide),
    BitVec.setWidth_setWidth_of_le _ (by decide), BitVec.setWidth_eq]

theorem transact_rdhex_of_done (k : Nibble) (h : s.st = .done) :
    transact (.rdhex k) s = some (digitResponse (reg64 s.hi s.lo) k,
      respond true ((hexChar (hexDigit (reg64 s.hi s.lo) k)).setWidth 32) s) :=
  transact_of_exec (resultRead_of_done _ h)

theorem transactAll_cons {i : Instr} {rest : List Instr} {r : Response} {rs : List Response} {t : State}
    (h : transact i s = some (r, t)) (hrest : transactAll rest t = some (rs, u)) :
    transactAll (i :: rest) s = some (r :: rs, u) := by
  simp [transactAll, h, hrest]

/-- Digits of the result may be read in any order and number: each read keeps the block. -/
theorem transactAll_rdhex_of_done (ks : List Nibble) (h : s.st = .done) :
    ∃ t, SameBlock s t
      ∧ transactAll (ks.map .rdhex) s = some (ks.map (digitResponse (reg64 s.hi s.lo)), t) := by
  induction ks generalizing s with
  | nil => exact ⟨s, ⟨rfl, rfl, rfl, rfl, rfl⟩, rfl⟩
  | cons k ks ih =>
    have hhead := transact_rdhex_of_done k h
    obtain ⟨t, hsame, htail⟩ := ih (s := respond true _ s) h
    exact ⟨t, hsame, transactAll_cons hhead htail⟩

theorem digitResponses_format (hi lo : Word) :
    (digitPositions.map (digitResponse (reg64 hi lo))).map responseChar = format hi lo := by
  rw [List.map_map, format]
  exact List.map_congr_left fun k _ => responseChar_digitResponse (reg64 hi lo) k

theorem resultCommand_of_done (h : s.st = .done) :
    ∃ t, SameBlock s t ∧ resultCommand s = some (.ok (format s.hi s.lo), t) := by
  obtain ⟨t, hsame, hread⟩ := transactAll_rdhex_of_done (s := respond true (status s) s) digitPositions h
  refine ⟨t, hsame, ?_⟩
  simp only [respond_hi, respond_lo] at hread
  simp [resultCommand, transact_rdst, h, Lifecycle.code, formatCommands, hread, ← digitResponses_format]

theorem resultCommand_of_error (h : s.st = .error) :
    resultCommand s = (errorResult (status s)).map fun v => (v, respond true (status s) s) := by
  simp [resultCommand, transact_rdst, h, Lifecycle.code]

theorem resultCommand_of_open (h : s.st = .idle ∨ s.st = .active) :
    resultCommand s = some (.noOutcome, respond true (status s) s) := by
  obtain h | h := h
  all_goals simp [resultCommand, transact_rdst, h, Lifecycle.code]

/-- The kinds of R128, by ERR. -/
theorem errorResult_status (s : State) :
    errorResult (status s) = match s.err with
      | .noError => none
      | .invalidInput => some (.err .invalidInput)
      | .ioFailure => some (.err (.ioFailure (Config.causeMap s.cause)))
      | .sequence | .illegal => some .protocolFault := by
  rw [errorResult, status_err, status_cause]
  cases s.err <;> rfl

end

/-- Settles O57: RESULT by the lifecycle state, and in ERROR by the code that STATUS shows. -/
theorem resultOfEachState : Obligations.ResultOfEachState := by
  unfold Obligations.ResultOfEachState
  intro s
  by_cases hdone : s.st = .done
  · obtain ⟨t, hsame, hresult⟩ := resultCommand_of_done hdone
    exact ⟨t, hsame, by simp [hdone, hresult]⟩
  · refine ⟨respond true (status s) s, sameBlock_respond _ _ s, fun h => absurd h hdone, ?invalidInput, ?ioFailure,
      ?protocol, resultCommand_of_open⟩
    case invalidInput | ioFailure =>
      intro hs herr
      simp [resultCommand_of_error hs, errorResult_status, herr]
    case protocol =>
      rintro hs (herr | herr)
      all_goals simp [resultCommand_of_error hs, errorResult_status, herr]

end Sys2Proof.Machine

/-! The family of 70_reset_and_hazards.md: what a reset does to one instance and to a system. -/

namespace Sys2Proof.Machine

/-! ## Reset (70_reset_and_hazards.md R137) -/

theorem resetBlock_eq (s : State) :
    resetBlock s = { s with hi := 0#32, lo := 0#32, st := .idle, err := .noError, cause := 0#8 } := rfl

theorem step_of_reset {s : State} {rest : List HostEvent} (h : s.events = .reset :: rest) :
    step s = .next (resetBlock { s with events := rest }) :=
  step_of_event h

theorem System.react_reset (sys : System) : System.react .reset sys = .next (sys.map resetBlock) := rfl

/-- Settles O10: for one instance and for every instance of a system, a reset is `resetBlock`, whose values are R31's. -/
theorem resetSetsEveryInstance : Obligations.ResetSetsEveryInstance := by
  unfold Obligations.ResetSetsEveryInstance
  refine ⟨fun s rest he => ?oneInstance, fun sys => ?everyInstance⟩
  case oneInstance => rw [step_of_reset he, resetBlock_eq]
  case everyInstance => rw [System.react_reset, funext resetBlock_eq]

end Sys2Proof.Machine

/-! The decoder as a whole (30_encoding.md sections 2 to 5): legal words are the words of commands, how many there are,
the opcode table's masks, and the assembler's checks. -/

namespace Sys2Proof

/-! ## Decoding the words of commands -/

theorem decodeTableWord_of_decode {c : CommandWord} {i : Instr} (h : decode c = .command i) :
    decodeTableWord 16 c.toNat = some i := by
  rw [decodeTableWord, if_pos ⟨le_rfl, c.isLt⟩, BitVec.ofNat_toNat, BitVec.setWidth_eq, h]

/-- Settles O1: the decoder inverts the encoder, and the table's number of a word is the word itself. -/
theorem decodeOfEncode : Obligations.DecodeOfEncode := by
  unfold Obligations.DecodeOfEncode
  exact fun i => ⟨decode_encode i, decodeTableWord_of_decode (decode_encode i)⟩

/-- Settles O5: the words of V-F4, one after another. -/
theorem writtenOutWords : Obligations.WrittenOutWords := by
  unfold Obligations.WrittenOutWords
  decide

/-! ## Legal words are the words of commands (30_encoding.md R55, R60) -/

theorem arg_ne_zero_of_noneForm {i : Instr} {arg : Byte} {why : IllegalReason} (h : noneForm i arg = .illegal why) :
    arg ≠ 0#8 := by
  rintro rfl
  cases h

theorem digitUpper_ne_zero_of_digitForm {f : Nibble → Instr} {arg : Byte} {why : IllegalReason}
    (h : digitForm f arg = .illegal why) : digitUpper arg ≠ 0#4 := by
  intro hupper
  rw [digitForm, if_pos hupper] at h
  cases h

/-- What makes an OP and an ARG illegal (R56, R58). -/
theorem fields_of_decodeOp_illegal {op : Nibble} {arg : Byte} {why : IllegalReason}
    (h : decodeOp op arg = .illegal why) :
    0xC#4 ≤ op
      ∨ (op ∈ [0x0#4, 0x1#4, 0x3#4, 0x5#4, 0x6#4, 0x7#4, 0xB#4] ∧ arg ≠ 0#8)
      ∨ (op = 0x8#4 ∧ digitUpper arg ≠ 0#4) := by
  unfold decodeOp at h
  split at h
  -- Forms BYTE, CODE and IDX: every ARG is legal.
  case h_3 | h_5 | h_10 | h_11 => contradiction
  -- Form DIGIT: RDHEX.
  case h_9 hop => exact .inr (.inr ⟨BitVec.eq_of_toNat_eq hop, digitUpper_ne_zero_of_digitForm h⟩)
  -- A reserved OP.
  case h_13 =>
    simp only [imp_false] at *
    exact .inl (BitVec.le_def.mpr (by simp only [BitVec.toNat_ofNat]; omega))
  -- Form NONE: the rest.
  case h_1 hop | h_2 hop | h_4 hop | h_6 hop | h_7 hop | h_8 hop | h_12 hop =>
    exact .inr (.inl ⟨by simp [← BitVec.toNat_inj, hop], arg_ne_zero_of_noneForm h⟩)

theorem digitUpper_argField (c : CommandWord) : digitUpper (argField c) = c.extractLsb' 4 4 := by
  ext i hi
  simp [digitUpper, argField]

theorem not_legal_of_decode {c : CommandWord} {why : IllegalReason} (h : decode c = .illegal why) :
    legal c = false := by
  rw [legal_eq_false_iff, ← digitUpper_argField]
  unfold decode at h
  split at h
  · obtain hop | hnone | hdigit := fields_of_decodeOp_illegal h
    · exact .inl hop
    · exact .inr (.inr (.inl hnone))
    · exact .inr (.inr (.inr hdigit))
  · next hrsv => exact .inr (.inl hrsv)

theorem legal_of_decode {c : CommandWord} {i : Instr} (h : decode c = .command i) : legal c = true := by
  rw [← encode_of_decode h]
  exact legal_encode i

theorem legal_iff_decode (c : CommandWord) : legal c = true ↔ ∃ i, decode c = .command i := by
  constructor
  · intro hlegal
    cases hc : decode c with
    | command i => exact ⟨i, rfl⟩
    | illegal why => simp [not_legal_of_decode hc] at hlegal
  · rintro ⟨i, hc⟩
    exact legal_of_decode hc

theorem opField_encode (i : Instr) : opField (encode i) = i.mnemonic.opcode := opField_commandWord _ _

theorem rsvField_encode (i : Instr) : rsvField (encode i) = 0#4 := rsvField_commandWord _ _

theorem argField_encode (i : Instr) : argField (encode i) = i.arg := argField_commandWord _ _

/-- Settles O2: a word that decodes to a command is that command's word, whose fields are known; any other word is not
legal. -/
theorem decodingIsTotal : Obligations.DecodingIsTotal := by
  unfold Obligations.DecodingIsTotal
  intro c
  cases hc : decode c with
  | illegal why => exact .inr ⟨not_legal_of_decode hc, why, rfl⟩
  | command i =>
    obtain rfl := encode_of_decode hc
    exact .inl ⟨legal_encode i, i, rfl, rfl, (opField_encode i).symm, (argField_encode i).symm⟩

/-! ## How many words are legal (30_encoding.md R55) -/

/-- Every value of a width. -/
def allValues (w : Nat) : List (BitVec w) := (List.finRange (2 ^ w)).map BitVec.ofFin

theorem length_allValues (w : Nat) : (allValues w).length = 2 ^ w := by
  simp [allValues]

theorem mem_allValues {w : Nat} (x : BitVec w) : x ∈ allValues w :=
  List.mem_map.mpr ⟨x.toFin, List.mem_finRange _, rfl⟩

theorem nodup_allValues (w : Nat) : (allValues w).Nodup :=
  (List.nodup_finRange _).map fun _ _ h => BitVec.ofFin.inj h

def allMnemonics : List Mnemonic :=
  [.nop, .init, .upd, .fin, .failio, .failinv, .rdhi, .rdlo, .rdhex, .rdth, .rdtl, .rdst]

theorem mem_allMnemonics (m : Mnemonic) : m ∈ allMnemonics := by
  cases m <;> decide

/-- The commands of a mnemonic, one for each value of its operand. -/
def commandsOf : Mnemonic → List Instr
  | .nop => [.nop]
  | .init => [.init]
  | .upd => (allValues 8).map .upd
  | .fin => [.fin]
  | .failio => (allValues 8).map .failio
  | .failinv => [.failinv]
  | .rdhi => [.rdhi]
  | .rdlo => [.rdlo]
  | .rdhex => (allValues 4).map .rdhex
  | .rdth => (allValues 8).map .rdth
  | .rdtl => (allValues 8).map .rdtl
  | .rdst => [.rdst]

theorem mem_commandsOf_mnemonic (i : Instr) : i ∈ commandsOf i.mnemonic := by
  cases i with
  | upd x | failio x | rdhex x | rdth x | rdtl x => exact List.mem_map_of_mem (mem_allValues x)
  | _ => exact List.mem_singleton_self _

theorem mnemonic_of_mem_commandsOf {i : Instr} {m : Mnemonic} (h : i ∈ commandsOf m) : i.mnemonic = m := by
  cases m with
  | upd | failio | rdhex | rdth | rdtl =>
    obtain ⟨x, -, rfl⟩ := List.mem_map.mp h
    rfl
  | _ =>
    obtain rfl := List.mem_singleton.mp h
    rfl

theorem nodup_commandsOf (m : Mnemonic) : (commandsOf m).Nodup := by
  cases m with
  | upd => exact (nodup_allValues 8).map fun _ _ => Instr.upd.inj
  | failio => exact (nodup_allValues 8).map fun _ _ => Instr.failio.inj
  | rdhex => exact (nodup_allValues 4).map fun _ _ => Instr.rdhex.inj
  | rdth => exact (nodup_allValues 8).map fun _ _ => Instr.rdth.inj
  | rdtl => exact (nodup_allValues 8).map fun _ _ => Instr.rdtl.inj
  | _ => exact List.nodup_singleton _

/-- How many operands a form has (30_encoding.md R52). -/
def formCount : Form → Nat
  | .byte | .code | .idx => 256
  | .digit => 16
  | .none => 1

theorem length_commandsOf (m : Mnemonic) : (commandsOf m).length = formCount m.form := by
  cases m with
  | upd | failio | rdhex | rdth | rdtl => exact List.length_map _ |>.trans (length_allValues _)
  | _ => rfl

def allCommands : List Instr := allMnemonics.flatMap commandsOf

theorem mem_allCommands (i : Instr) : i ∈ allCommands :=
  List.mem_flatMap.mpr ⟨i.mnemonic, mem_allMnemonics _, mem_commandsOf_mnemonic i⟩

theorem length_allCommands : allCommands.length = 1047 := by
  simp only [allCommands, List.length_flatMap, length_commandsOf]
  rfl

theorem nodup_allCommands : allCommands.Nodup := by
  refine List.nodup_flatMap.mpr ⟨fun m _ => nodup_commandsOf m, ?_⟩
  have hdistinct : allMnemonics.Pairwise (· ≠ ·) := by decide
  refine hdistinct.imp fun hne i hi hj => hne ?_
  rw [← mnemonic_of_mem_commandsOf hi, mnemonic_of_mem_commandsOf hj]

theorem encode_injective : Function.Injective encode := fun i j h =>
  Decoded.command.inj (by rw [← decode_encode i, h, decode_encode])

theorem mem_map_encode {c : CommandWord} {is : List Instr} :
    c ∈ is.map encode ↔ ∃ i, decode c = .command i ∧ i ∈ is := by
  constructor
  · intro hc
    obtain ⟨i, hi, rfl⟩ := List.mem_map.mp hc
    exact ⟨i, decode_encode i, hi⟩
  · rintro ⟨i, hc, hi⟩
    exact List.mem_map.mpr ⟨i, hi, encode_of_decode hc⟩

/-- Settles O3: the encoder is injective, so the words are counted by the commands they encode. -/
theorem legalWordCounts : Obligations.LegalWordCounts := by
  unfold Obligations.LegalWordCounts
  refine ⟨⟨allCommands.map encode, nodup_allCommands.map encode_injective,
    (List.length_map _).trans length_allCommands, fun c => ?total⟩, fun m => ⟨(commandsOf m).map encode,
    (nodup_commandsOf m).map encode_injective, (List.length_map _).trans (length_commandsOf m), fun c => ?perMnemonic⟩⟩
  case total => simp [mem_map_encode, legal_iff_decode, mem_allCommands]
  case perMnemonic =>
    rw [mem_map_encode]
    exact exists_congr fun i => and_congr_right fun _ =>
      ⟨mnemonic_of_mem_commandsOf, fun h => h ▸ mem_commandsOf_mnemonic i⟩

/-! ## The operand bits of a form -/

/-- The bits of ARG that a form requires to be 0 (30_encoding.md R52). -/
def fixedArgBits : Form → Byte
  | .byte | .code | .idx => 0x00#8
  | .digit => 0xF0#8
  | .none => 0xFF#8

theorem arg_and_fixedArgBits (i : Instr) : i.arg &&& fixedArgBits i.mnemonic.form = 0#8 := by
  cases i with
  | upd | failio | rdth | rdtl => exact BitVec.and_zero
  | rdhex k => revert k; decide
  | _ => rfl

end Sys2Proof

namespace Sys2Proof.Machine

/-! ## The command of a mnemonic and a number (30_encoding.md R61) -/

@[simp] theorem mnemonic_commandOf (m : Mnemonic) (n : Nat) : (commandOf m n).mnemonic = m := by
  cases m <;> rfl

theorem commandOf_mnemonic_arg (i : Instr) : commandOf i.mnemonic i.arg.toNat = i := by
  cases i with
  | upd b | failio b | rdth b | rdtl b => simp [Instr.mnemonic, Instr.arg, commandOf]
  | rdhex k => revert k; decide
  | _ => rfl

/-- A number with its form's fixed bits zero becomes the ARG of the command. -/
theorem arg_commandOf {m : Mnemonic} {arg : Byte} (h : arg &&& fixedArgBits m.form = 0#8) :
    (commandOf m arg.toNat).arg = arg := by
  cases m with
  | upd | failio | rdth | rdtl => simp [commandOf, Instr.arg]
  | rdhex => revert arg; decide
  | _ => exact (BitVec.and_allOnes.symm.trans h).symm

theorem toNat_digitArg (k : Nibble) : (Instr.rdhex k).arg.toNat = k.toNat := by
  rw [Instr.arg, BitVec.toNat_append]
  simp

/-- A number that the form admits becomes the ARG of the command. -/
theorem arg_commandOf_of_admits {m : Mnemonic} {operand : Option Nat} (h : m.form.admits operand = true) :
    (commandOf m (operand.getD 0)).arg.toNat = operand.getD 0 := by
  cases operand with
  | none =>
    cases m with
    | upd | failio | rdhex | rdth | rdtl => contradiction
    | _ => rfl
  | some n =>
    cases m with
    | upd | failio | rdth | rdtl => exact Nat.mod_eq_of_lt (of_decide_eq_true h)
    | rdhex =>
      exact (toNat_digitArg _).trans (Nat.mod_eq_of_lt (of_decide_eq_true h))
    | _ => contradiction

end Sys2Proof.Machine

namespace Sys2Proof

/-! ## The opcode table (30_encoding.md R54, spec/opcode_table.json) -/

/-- The row of a mnemonic: OP and RSV are compared in full, and ARG where its form fixes it. -/
def rowOf (m : Mnemonic) : OpcodeRow :=
  ⟨m, commandWord m.opcode 0#8, 0xF#4 ++ 0xF#4 ++ fixedArgBits m.form⟩

theorem opcodeTable_eq : opcodeTable = allMnemonics.map rowOf := by decide

theorem exists_row_iff (m : Mnemonic) (c : CommandWord) :
    (∃ r ∈ opcodeTable, r.mnemonic = m ∧ r.covers c = true) ↔ (rowOf m).covers c = true := by
  rw [opcodeTable_eq]
  constructor
  · rintro ⟨r, hr, rfl, hcovers⟩
    obtain ⟨m, -, rfl⟩ := List.mem_map.mp hr
    exact hcovers
  · exact fun hcovers => ⟨rowOf m, List.mem_map_of_mem (mem_allMnemonics m), rfl, hcovers⟩

theorem mask_fields (m : Mnemonic) :
    opField (rowOf m).mask = BitVec.allOnes 4 ∧ rsvField (rowOf m).mask = BitVec.allOnes 4
      ∧ argField (rowOf m).mask = fixedArgBits m.form := by
  cases m <;> decide

/-- The fields a row compares with its pattern. -/
theorem fields_and_mask (m : Mnemonic) (c : CommandWord) :
    opField (c &&& (rowOf m).mask) = opField c ∧ rsvField (c &&& (rowOf m).mask) = rsvField c
      ∧ argField (c &&& (rowOf m).mask) = argField c &&& fixedArgBits m.form := by
  obtain ⟨hop, hrsv, harg⟩ := mask_fields m
  refine ⟨?_, ?_, BitVec.extractLsb'_and.trans (congrArg _ harg)⟩
  · exact BitVec.extractLsb'_and.trans ((congrArg _ hop).trans BitVec.and_allOnes)
  · exact BitVec.extractLsb'_and.trans ((congrArg _ hrsv).trans BitVec.and_allOnes)

theorem covers_iff (m : Mnemonic) (c : CommandWord) :
    (rowOf m).covers c = true
      ↔ opField c = m.opcode ∧ rsvField c = 0#4 ∧ argField c &&& fixedArgBits m.form = 0#8 := by
  obtain ⟨hop, hrsv, harg⟩ := fields_and_mask m c
  rw [OpcodeRow.covers, beq_iff_eq, ← hop, ← hrsv, ← harg]
  constructor
  · intro h
    rw [h]
    exact ⟨opField_commandWord _ _, rsvField_commandWord _ _, argField_commandWord _ _⟩
  · rintro ⟨hop, hrsv, harg⟩
    rw [← commandWord_fields _ hrsv, hop, harg]
    rfl

/-- The same condition tells the words of a mnemonic's commands. -/
theorem decode_mnemonic_iff (m : Mnemonic) (c : CommandWord) :
    (∃ i, decode c = .command i ∧ i.mnemonic = m)
      ↔ opField c = m.opcode ∧ rsvField c = 0#4 ∧ argField c &&& fixedArgBits m.form = 0#8 := by
  constructor
  · rintro ⟨i, hc, rfl⟩
    obtain rfl := encode_of_decode hc
    rw [opField_encode, rsvField_encode, argField_encode]
    exact ⟨rfl, rfl, arg_and_fixedArgBits i⟩
  · rintro ⟨hop, hrsv, harg⟩
    refine ⟨Machine.commandOf m (argField c).toNat, ?_, Machine.mnemonic_commandOf m _⟩
    have hword : encode (Machine.commandOf m (argField c).toNat) = c := by
      rw [encode, Machine.mnemonic_commandOf, Machine.arg_commandOf harg, ← hop, commandWord_fields c hrsv]
    rw [← hword, decode_encode, hword]

/-- Settles O4: a row with the mnemonic and the decoder ask the same of OP, RSV and ARG. -/
theorem opcodeTableAgrees : Obligations.OpcodeTableAgrees := by
  unfold Obligations.OpcodeTableAgrees
  intro c m
  rw [exists_row_iff, covers_iff, decode_mnemonic_iff]

end Sys2Proof

namespace Sys2Proof.Machine

/-! ## The assembler's checks (30_encoding.md R61) -/

theorem assemble_of_admits {m : Mnemonic} {operand : Option Nat} (h : m.form.admits operand = true) :
    assemble ⟨m, operand⟩ = some (commandOf m (operand.getD 0)) :=
  if_pos h

theorem assemble_of_not_admits {m : Mnemonic} {operand : Option Nat} (h : m.form.admits operand = false) :
    assemble ⟨m, operand⟩ = none :=
  if_neg (Bool.eq_false_iff.mp h)

theorem admits_none_of_ne {f : Form} (h : f ≠ .none) : f.admits none = false := by
  cases f with
  | none => contradiction
  | _ => rfl

theorem not_admits_of_large (f : Form) {n : Nat} (h : 256 ≤ n) : f.admits (some n) = false := by
  cases f with
  | none => rfl
  | _ => exact decide_eq_false (by omega)

/-- The operand written for a command is one its form admits, and stands for its ARG. -/
theorem admits_disassemble (i : Instr) :
    i.mnemonic.form.admits (disassemble i).operand = true ∧ (disassemble i).operand.getD 0 = i.arg.toNat := by
  cases i with
  | upd x | failio x | rdth x | rdtl x => exact ⟨decide_eq_true x.isLt, rfl⟩
  | rdhex k => exact ⟨decide_eq_true ((toNat_digitArg k).trans_lt k.isLt), rfl⟩
  | _ => exact ⟨rfl, rfl⟩

/-- Settles O6: the checks are those of the form's operands, and an admitted number is the ARG of the command. -/
theorem assemblerChecks : Obligations.AssemblerChecks := by
  unfold Obligations.AssemblerChecks
  refine ⟨fun l h => ⟨_, assemble_of_admits h, mnemonic_commandOf _ _, arg_commandOf_of_admits h⟩,
    fun m n hform => ?noOperand, fun m hform => ?missing, fun m n hform hn => ?digit,
    fun m n hn => ?large, fun i => ?roundTrip⟩
  case noOperand => exact assemble_of_not_admits (by rw [hform]; rfl)
  case missing => exact assemble_of_not_admits (admits_none_of_ne hform)
  case digit => exact assemble_of_not_admits (by rw [hform]; exact decide_eq_false (by omega))
  case large => exact assemble_of_not_admits (not_admits_of_large m.form hn)
  case roundTrip =>
    obtain ⟨hadmits, harg⟩ := admits_disassemble i
    rw [disassemble] at hadmits harg ⊢
    rw [assemble_of_admits hadmits, harg, commandOf_mnemonic_arg]

end Sys2Proof.Machine

/-! Every command is an effect on the block and one response (41_checksum.md R79, R81). From that: what each command and
each step leaves unchanged, the invariants of 10_state.md, and that nothing outside DONE depends on the register. -/

namespace Sys2Proof.Machine

/-! ## The parts of a command's answer -/

/-- The OK bit of a command's response (41_checksum.md R81). -/
def okBit (i : Instr) (s : State) : Bool :=
  match i with
  | .nop | .init | .rdth _ | .rdtl _ | .rdst => true
  | .upd _ | .fin => decide (s.st = .active)
  | .failio _ | .failinv => !decide (s.st = .error)
  | .rdhi | .rdlo | .rdhex _ => decide (s.st = .done)

/-- The DATA of a command's response. -/
def dataWord (i : Instr) (s : State) : Word :=
  match i with
  | .rdhi => if s.st = .done then s.hi else 0#32
  | .rdlo => if s.st = .done then s.lo else 0#32
  | .rdhex k => if s.st = .done then (hexChar (hexDigit (reg64 s.hi s.lo) k)).setWidth 32 else 0#32
  | .rdth j => tableHigh j
  | .rdtl j => tableLow j
  | .rdst => status s
  | .nop | .init | .upd _ | .fin | .failio _ | .failinv => 0#32

/-- What a command does besides responding. -/
def effect (i : Instr) (s : State) : State :=
  match i with
  | .init => openComputation s
  | .upd b => if s.st = .active then setRegister (update (s.hi, s.lo) b) s else raiseFault .sequence 0#8 s
  | .fin => if s.st = .active then finish s else raiseFault .sequence 0#8 s
  | .failio code => raiseFault .ioFailure code s
  | .failinv => raiseFault .invalidInput 0#8 s
  | .nop | .rdhi | .rdlo | .rdhex _ | .rdth _ | .rdtl _ | .rdst => s

theorem exec_eq_respond (i : Instr) (s : State) :
    exec i s = .next (respond (okBit i s) (dataWord i s) (effect i s)) := by
  rw [exec_eq]
  cases i with
  | nop | init | rdth | rdtl | rdst => rfl
  | upd | fin => by_cases hs : s.st = .active <;> simp [okBit, dataWord, effect, hs]
  | failio | failinv => by_cases hs : s.st = .error <;> simp [okBit, dataWord, effect, hs, raiseFault_of_error]
  | rdhi | rdlo | rdhex => by_cases hs : s.st = .done <;> simp [okBit, dataWord, effect, hs]

theorem eq_respond_of_exec {i : Instr} {s t : State} (h : exec i s = .next t) :
    t = respond (okBit i s) (dataWord i s) (effect i s) :=
  (Host.Outcome.next.inj ((exec_eq_respond i s).symm.trans h)).symm

theorem effect_upd_of_active (b : Byte) {s : State} (hs : s.st = .active) :
    effect (.upd b) s = setRegister (update (s.hi, s.lo) b) s := if_pos hs

theorem effect_fin_of_active {s : State} (hs : s.st = .active) : effect .fin s = finish s := if_pos hs

theorem effect_of_sequence {i : Instr} {s : State} (hi : i = .fin ∨ ∃ b, i = .upd b) (hs : s.st ≠ .active) :
    effect i s = raiseFault .sequence 0#8 s := by
  obtain rfl | ⟨b, rfl⟩ := hi
  all_goals exact if_neg hs

/-- What any event can do to the block: nothing, a reset, INIT, the two effects of ACTIVE, or an error entry, whose
cause is 0 unless the code is IO_FAILURE. -/
inductive BlockChange (s : State) : State → Prop where
  | nothing : BlockChange s s
  | reset : BlockChange s (resetBlock s)
  | opened : BlockChange s (openComputation s)
  | folded (r : Word × Word) (active : s.st = .active) : BlockChange s (setRegister r s)
  | finished (active : s.st = .active) : BlockChange s (finish s)
  | fault (code : ErrCode) (cause : Byte) (isError : code ≠ .noError) (causeOnlyIo : cause ≠ 0#8 → code = .ioFailure) :
      BlockChange s (raiseFault code cause s)

theorem BlockChange.events {s t : State} (h : BlockChange s t) : t.events = s.events := by
  cases h <;> simp

theorem BlockChange.responses {s t : State} (h : BlockChange s t) : t.responses = s.responses := by
  cases h <;> simp

theorem blockChange_effect (i : Instr) (s : State) : BlockChange s (effect i s) := by
  cases i with
  | init => exact .opened
  | upd b =>
    by_cases hs : s.st = .active
    · rw [effect_upd_of_active b hs]
      exact .folded _ hs
    · rw [effect_of_sequence (.inr ⟨b, rfl⟩) hs]
      exact .fault .sequence 0#8 (by decide) (by decide)
  | fin =>
    by_cases hs : s.st = .active
    · rw [effect_fin_of_active hs]
      exact .finished hs
    · rw [effect_of_sequence (.inl rfl) hs]
      exact .fault .sequence 0#8 (by decide) (by decide)
  | failio code => exact .fault .ioFailure code (by decide) fun _ => rfl
  | failinv => exact .fault .invalidInput 0#8 (by decide) (by decide)
  | _ => exact .nothing

section
variable (i : Instr) (s : State)

@[simp] theorem effect_events : (effect i s).events = s.events := (blockChange_effect i s).events

@[simp] theorem effect_responses : (effect i s).responses = s.responses := (blockChange_effect i s).responses

/-- The lifecycle after a command (41_checksum.md R81). -/
theorem effect_st : (effect i s).st = match i with
    | .init => .active
    | .upd _ => if s.st = .active then .active else .error
    | .fin => if s.st = .active then .done else .error
    | .failio _ | .failinv => .error
    | .nop | .rdhi | .rdlo | .rdhex _ | .rdth _ | .rdtl _ | .rdst => s.st := by
  cases i with
  | upd | fin => by_cases hs : s.st = .active <;> simp [effect, hs]
  | failio | failinv => exact raiseFault_st _ _ s
  | _ => rfl

/-- Whenever OK = 0, DATA = 0 (30_encoding.md R53). -/
theorem dataWord_of_not_ok (h : okBit i s = false) : dataWord i s = 0#32 := by
  cases i with
  | rdhi | rdlo | rdhex => exact if_neg (by simpa [okBit] using h)
  | rdth | rdtl | rdst => contradiction
  | _ => rfl

/-- A command that changes the block gives no data. -/
theorem dataWord_of_effect_ne (h : effect i s ≠ s) : dataWord i s = 0#32 := by
  cases i with
  | rdhi | rdlo | rdhex | rdth | rdtl | rdst => contradiction
  | _ => rfl

end

/-! ## The step (30_encoding.md R50, 41_checksum.md R79) -/

section
variable {s t : State} {c : CommandWord} {rest : List HostEvent}

theorem step_of_decode {i : Instr} (he : s.events = .command c :: rest) (hc : decode c = .command i) :
    step s = exec i { s with events := rest } :=
  (step_of_event he).trans (runCommand_of_command hc _)

theorem step_of_encode {i : Instr} (he : s.events = .command (encode i) :: rest) :
    step s = exec i { s with events := rest } :=
  step_of_decode he (decode_encode i)

/-- A word is answered with one response, after an effect that leaves the streams. -/
theorem runCommand_eq_respond (c : CommandWord) (s : State) : ∃ ok data u,
    runCommand c s = .next (respond ok data u) ∧ u.events = s.events ∧ u.responses = s.responses
      ∧ (ok = false → data = 0#32) ∧ (u ≠ s → data = 0#32) := by
  cases hc : decode c with
  | command i => exact ⟨_, _, _, (runCommand_of_command hc s).trans (exec_eq_respond i s), effect_events i s,
      effect_responses i s, dataWord_of_not_ok i s, dataWord_of_effect_ne i s⟩
  | illegal why => exact ⟨_, _, _, runCommand_of_illegal hc s, raiseFault_events _ _ s, raiseFault_responses _ _ s,
      fun _ => rfl, fun _ => rfl⟩

end

/-- Settles O7: the step takes the word off the stream and runs what it decodes to. -/
theorem stepRunsDecoded : Obligations.StepRunsDecoded := by
  unfold Obligations.StepRunsDecoded
  exact fun s c rest i => step_of_decode

/-- Settles O9: with no event there is nothing to react to. -/
theorem waitsWithoutEvents : Obligations.WaitsWithoutEvents := by
  unfold Obligations.WaitsWithoutEvents
  exact fun s => step_of_no_event

/-- Settles O11: each value is written in the definition of the reset state; STATUS is computed from it. -/
theorem resetValues : Obligations.ResetValues := by
  unfold Obligations.ResetValues
  exact ⟨rfl, rfl, rfl, rfl, rfl, rfl, rfl, rfl⟩

/-- Settles O14: a wait, a reset, a command and an illegal word each have a next state. -/
theorem everyStepAnswers : Obligations.EveryStepAnswers := by
  unfold Obligations.EveryStepAnswers
  exact step_total

/-- Settles O13: the response is the one `runCommand_eq_respond` adds. -/
theorem oneResponsePerCommand : Obligations.OneResponsePerCommand := by
  unfold Obligations.OneResponsePerCommand
  intro s c rest he
  obtain ⟨ok, data, u, hrun, hevents, hresponses, hdata, -⟩ := runCommand_eq_respond c { s with events := rest }
  refine ⟨_, ⟨ok, data⟩, (step_of_event he).trans hrun, hevents, ?_, hdata⟩
  rw [respond_responses, hresponses]

theorem runSteps_one (s : State) : runSteps 1 s = step s := by
  obtain ⟨t, ht⟩ := step_total s
  rw [runSteps_succ 0 ht, ht, runSteps_zero]

/-- Settles O12: the first step is the reset, after which `s` is IDLE with nothing else of the block left. -/
theorem firstCommandAfterReset : Obligations.FirstCommandAfterReset := by
  unfold Obligations.FirstCommandAfterReset
  intro s rest i he
  have hrun : runSteps 2 s = exec i (resetBlock { s with events := rest }) := by
    rw [runSteps_succ 1 (step_of_reset he), runSteps_one]
    exact step_of_encode rfl
  rw [hrun]
  constructor
  · rintro (rfl | ⟨b, rfl⟩)
    · rw [exec_fin_of_not_active (by simp), outOfSequence_of_not_error (by simp), resetBlock_eq]
    · rw [exec_upd_of_not_active b (by simp), outOfSequence_of_not_error (by simp), resetBlock_eq]
  · intro hi
    have hok : okBit i (resetBlock { s with events := rest }) = true := by
      obtain hi | ⟨b, rfl | rfl | rfl⟩ := hi
      · cases i <;> simp at hi <;> rfl
      all_goals rfl
    refine ⟨_, dataWord i (resetBlock { s with events := rest }), exec_eq_respond i _, effect_events i _, ?_⟩
    rw [respond_responses, effect_responses, hok]
    rfl

/-! ## What the commands leave unchanged -/

/-- Settles O34: the OK bit and the effect's lifecycle are the matrix. -/
theorem dispatchMatrix : Obligations.DispatchMatrix := by
  unfold Obligations.DispatchMatrix
  intro i s
  refine ⟨_, dataWord i s, exec_eq_respond i s, ?response, ?lifecycle⟩
  case response =>
    rw [respond_responses, effect_responses]
    cases i <;> rfl
  case lifecycle =>
    rw [respond_st, effect_st]
    cases i with
    | upd | fin => cases s.st <;> rfl
    | _ => rfl

/-- NOP and the reads change nothing. -/
theorem effect_of_read {i : Instr} (s : State)
    (h : i ∈ [.nop, .rdhi, .rdlo, .rdst] ∨ (∃ k, i = .rdhex k) ∨ ∃ j, i = .rdth j ∨ i = .rdtl j) : effect i s = s := by
  cases i with
  | init | upd | fin | failio | failinv => simp at h
  | _ => rfl

/-- Settles O31: the effect of a read is nothing, and a response is not part of the block. -/
theorem readFrame : Obligations.ReadFrame := by
  unfold Obligations.ReadFrame
  intro i s t hi h
  obtain rfl := eq_respond_of_exec h
  rw [effect_of_read s hi]
  exact ⟨sameBlock_respond _ _ s, rfl, _, rfl⟩

/-- The commands that write the register are INIT and, in ACTIVE, UPD (10_state.md R13). -/
theorem effect_register {i : Instr} {s : State} (hinit : i ≠ .init) (hupd : s.st = .active → ∀ b, i ≠ .upd b) :
    (effect i s).hi = s.hi ∧ (effect i s).lo = s.lo := by
  cases i with
  | init => contradiction
  | upd b =>
    have hs : s.st ≠ .active := fun hs => hupd hs b rfl
    simp [effect, hs]
  | fin => by_cases hs : s.st = .active <;> simp [effect, hs]
  | failio | failinv => exact ⟨raiseFault_hi _ _ s, raiseFault_lo _ _ s⟩
  | _ => exact ⟨rfl, rfl⟩

/-- Settles O22: by the command's effect. -/
theorem checksumCommandFrame : Obligations.ChecksumCommandFrame := by
  unfold Obligations.ChecksumCommandFrame
  intro i s t h
  obtain rfl := eq_respond_of_exec h
  have hevents : (respond (okBit i s) (dataWord i s) (effect i s)).events = s.events := effect_events i s
  refine ⟨?nop, fun _ => hevents, ?failures, ?upd, ?fin, ⟨okBit i s, dataWord i s⟩, ?responses⟩
  case nop =>
    rintro rfl
    exact ⟨sameBlock_respond _ _ s, rfl⟩
  case failures =>
    intro hi
    obtain ⟨hhi, hlo⟩ := effect_register (i := i) (s := s) (by rintro rfl; simp at hi) (by rintro - b rfl; simp at hi)
    exact ⟨hhi, hlo, hevents⟩
  case upd =>
    rintro ⟨b, rfl⟩
    refine ⟨hevents, fun hs => ?_, fun hs => effect_register (by simp) fun hs' => absurd hs' hs⟩
    rw [effect_upd_of_active b hs]
    exact ⟨rfl, rfl, rfl⟩
  case fin =>
    rintro rfl hs
    rw [effect_fin_of_active hs]
    exact ⟨rfl, rfl⟩
  case responses => rw [respond_responses, effect_responses]

/-- Settles O33: RESULT's read of the digits, whose responses are all OK. -/
theorem readingDigitsGivesFormat : Obligations.ReadingDigitsGivesFormat := by
  unfold Obligations.ReadingDigitsGivesFormat
  intro s hs
  obtain ⟨t, hsame, hread⟩ := transactAll_rdhex_of_done digitPositions hs
  refine ⟨_, t, hread, digitResponses_format s.hi s.lo, fun r hr => ?_, hsame⟩
  obtain ⟨k, -, rfl⟩ := List.mem_map.mp hr
  rfl

/-- Settles O30: the sixteen codes are computed. -/
theorem digitCodes : Obligations.DigitCodes := by
  unfold Obligations.DigitCodes
  decide

end Sys2Proof.Machine

/-! The invariants of 10_state.md and the error entry of 60_exceptions.md, from what a step can do to the block. -/

namespace Sys2Proof.Machine

/-! ## What a step can do to the block -/

/-- A change of the block does not look at the stream. -/
theorem BlockChange.of_events {s u : State} {es : List HostEvent} (h : BlockChange { s with events := es } u) :
    ∃ v, BlockChange s v ∧ SameBlock u v := by
  cases h with
  | nothing => exact ⟨_, .nothing, rfl, rfl, rfl, rfl, rfl⟩
  | reset => exact ⟨_, .reset, rfl, rfl, rfl, rfl, rfl⟩
  | opened => exact ⟨_, .opened, rfl, rfl, rfl, rfl, rfl⟩
  | folded r active => exact ⟨_, .folded r active, rfl, rfl, rfl, rfl, rfl⟩
  | finished active => exact ⟨_, .finished active, rfl, rfl, rfl, rfl, rfl⟩
  | fault code cause isError causeOnlyIo => exact ⟨_, .fault code cause isError causeOnlyIo, by simp [SameBlock]⟩

theorem blockChange_of_step {s t : State} (h : step s = .next t) : ∃ u, BlockChange s u ∧ SameBlock t u := by
  obtain ⟨-, rfl⟩ | ⟨rest, -, rfl⟩ | ⟨c, rest, i, -, -, hexec⟩ | ⟨c, rest, why, -, -, rfl⟩ := step_cases h
  · exact ⟨_, .nothing, rfl, rfl, rfl, rfl, rfl⟩
  · exact BlockChange.reset.of_events
  · obtain rfl := eq_respond_of_exec hexec
    exact (blockChange_effect i { s with events := rest }).of_events
  · exact (BlockChange.fault .illegal 0#8 (by decide) (by decide)).of_events

/-! ## Invariants of the block (10_state.md section 4) -/

theorem statusInv_congr {s t : State} (h : SameBlock t s) (hs : StatusInv s) : StatusInv t := by
  obtain ⟨-, -, hst, herr, hcause⟩ := h
  rwa [StatusInv, hst, herr, hcause]

theorem statusInv_of_no_error {s : State} (hst : s.st ≠ .error) (herr : s.err = .noError) (hcause : s.cause = 0#8) :
    StatusInv s :=
  ⟨fun _ => ⟨herr, hcause⟩, fun h => absurd h hst, fun h => absurd hcause h⟩

theorem statusInv_raiseFault {code : ErrCode} {cause : Byte} {s : State} (hcode : code ≠ .noError)
    (hcause : cause ≠ 0#8 → code = .ioFailure) (hs : StatusInv s) : StatusInv (raiseFault code cause s) := by
  by_cases herror : s.st = .error
  · rwa [raiseFault_of_error herror]
  · rw [raiseFault_of_not_error herror]
    exact ⟨fun h => absurd rfl h, fun _ => hcode, hcause⟩

/-- The two effects of ACTIVE start where there is no error. -/
theorem BlockChange.statusInv {s t : State} (h : BlockChange s t) (hinv : StatusInv s) : StatusInv t := by
  cases h with
  | nothing => exact hinv
  | reset => exact statusInv_of_no_error (by simp) rfl rfl
  | opened => exact statusInv_of_no_error (by simp) rfl rfl
  | folded r active => exact hinv
  | finished active =>
    obtain ⟨noError, -, -⟩ := hinv
    obtain ⟨herr, hcause⟩ := noError (by simp [active])
    exact statusInv_of_no_error (by simp) herr hcause
  | fault code cause isError causeOnlyIo => exact statusInv_raiseFault isError causeOnlyIo hinv

/-- Settles O40: every change of the block keeps R24. -/
theorem statusInvariantKept : Obligations.StatusInvariantKept := by
  unfold Obligations.StatusInvariantKept
  intro s t hinv h
  obtain ⟨u, hchange, hsame⟩ := blockChange_of_step h
  exact statusInv_congr hsame (hchange.statusInv hinv)

/-- Settles O41: of the changes only a reset leads into IDLE, and it clears the register. -/
theorem idleRegisterKept : Obligations.IdleRegisterKept := by
  unfold Obligations.IdleRegisterKept
  intro s t hinv h hidle
  obtain ⟨u, hchange, hhi, hlo, hst, -, -⟩ := blockChange_of_step h
  rw [hst] at hidle
  rw [hhi, hlo]
  cases hchange with
  | nothing => exact hinv hidle
  | reset => exact ⟨rfl, rfl⟩
  | folded r active => simp [active] at hidle
  | opened | finished | fault => simp at hidle

/-- Settles O44: of the changes only "nothing" starts and ends in DONE. -/
theorem resultStableWhileDone : Obligations.ResultStableWhileDone := by
  unfold Obligations.ResultStableWhileDone
  intro s t hs h ht
  obtain ⟨u, hchange, hhi, hlo, hst, -, -⟩ := blockChange_of_step h
  rw [hst] at ht
  rw [hhi, hlo]
  cases hchange with
  | nothing => exact ⟨rfl, rfl⟩
  | folded r active | finished active => simp [hs] at active
  | reset | opened | fault => simp at ht

/-- Settles O42: the reset state has no error and a zero register. -/
theorem invariantsAtReset : Obligations.InvariantsAtReset := by
  unfold Obligations.InvariantsAtReset
  exact ⟨statusInv_of_no_error (by decide) rfl rfl, fun _ => ⟨rfl, rfl⟩⟩

/-- STATUS is CAUSE above bit 8 and the codes of ERR and ST below (10_state.md R23). -/
theorem status_eq_or {s : State} {low : Word} (h : low.toNat = s.st.code.toNat + 4 * s.err.code.toNat) :
    status s = (s.cause.setWidth 32 <<< 8) ||| low := by
  have hst : s.st.code.toNat < 4 := s.st.code.isLt
  have herr : s.err.code.toNat < 8 := s.err.code.isLt
  have hcause : s.cause.toNat < 256 := s.cause.isLt
  have hshift : (s.cause.setWidth 32 <<< 8).toNat = s.cause.toNat <<< 8 := by
    rw [BitVec.toNat_shiftLeft, BitVec.toNat_setWidth_of_le (by decide), Nat.shiftLeft_eq]
    omega
  apply BitVec.eq_of_toNat_eq
  rw [status_toNat, BitVec.toNat_or, hshift, ← Nat.shiftLeft_add_eq_or_of_lt (by omega), h, Nat.shiftLeft_eq]
  omega

theorem status_eq_low {s : State} {low : Word} (hcause : s.cause = 0#8)
    (h : low.toNat = s.st.code.toNat + 4 * s.err.code.toNat) : status s = low := by
  rw [status_eq_or h, hcause]
  exact BitVec.zero_or

/-- Settles O43: outside ERROR STATUS is ST, and in ERROR it is read off for each code. -/
theorem statusValues : Obligations.StatusValues := by
  unfold Obligations.StatusValues
  intro s hinv
  have hstatus := status_of_not_error hinv
  obtain ⟨-, hcode, hcause⟩ := hinv
  have hzero : s.err ≠ .ioFailure → s.cause = 0#8 := fun herr => by_contra fun hne => herr (hcause hne)
  cases hs : s.st with
  | idle | active | done => simp [hstatus, hs, Lifecycle.code]
  | error =>
    refine .inr (.inr (.inr ⟨rfl, ?_⟩))
    cases herr : s.err with
    | noError => exact absurd herr (hcode hs)
    | invalidInput => exact .inl (status_eq_low (hzero (by simp [herr])) (by rw [hs, herr]; rfl))
    | sequence => exact .inr (.inl (status_eq_low (hzero (by simp [herr])) (by rw [hs, herr]; rfl)))
    | illegal => exact .inr (.inr (.inl (status_eq_low (hzero (by simp [herr])) (by rw [hs, herr]; rfl))))
    | ioFailure => exact .inr (.inr (.inr ⟨s.cause, status_eq_or (by rw [hs, herr]; rfl)⟩))

/-! ## Entering ERROR (60_exceptions.md R116 to R125) -/

/-- Of the changes only an error entry leads into ERROR, and it does not write the register. -/
theorem BlockChange.register_of_error {s t : State} (h : BlockChange s t) (hs : s.st ≠ .error) (ht : t.st = .error) :
    t.hi = s.hi ∧ t.lo = s.lo := by
  cases h with
  | fault code cause => exact ⟨raiseFault_hi code cause s, raiseFault_lo code cause s⟩
  | nothing | folded => exact absurd ht hs
  | reset | opened | finished => simp at ht

/-- A step that changes ST, into ERROR, is a command's. -/
theorem command_of_step_error {s t : State} (hs : s.st ≠ .error) (h : step s = .next t) (ht : t.st = .error) :
    ∃ c rest, s.events = .command c :: rest := by
  obtain ⟨-, rfl⟩ | ⟨rest, -, rfl⟩ | ⟨c, rest, i, he, -, -⟩ | ⟨c, rest, why, he, -, -⟩ := step_cases h
  · exact absurd ht hs
  · simp at ht
  all_goals exact ⟨c, rest, he⟩

/-- Settles O39: the step is a command's, whose effect is an error entry and so gives no data. -/
theorem errorsArePrecise : Obligations.ErrorsArePrecise := by
  unfold Obligations.ErrorsArePrecise
  intro s t hs h ht
  obtain ⟨v, hchange, hhi, hlo, hst, -, -⟩ := blockChange_of_step h
  obtain ⟨hhi', hlo'⟩ := hchange.register_of_error hs (hst.symm.trans ht)
  refine ⟨hhi.trans hhi', hlo.trans hlo', ?_⟩
  obtain ⟨c, rest, he⟩ := command_of_step_error hs h ht
  obtain ⟨ok, data, u, hrun, hevents, hresponses, -, hdata⟩ := runCommand_eq_respond c { s with events := rest }
  obtain rfl := Host.Outcome.next.inj (((step_of_event he).trans hrun).symm.trans h)
  have hzero : data = 0#32 := hdata (by rintro rfl; exact hs ht)
  refine ⟨⟨c, ?_⟩, ok, ?_⟩
  · rw [respond_events, hevents, he]
  · rw [respond_responses, hresponses, hzero]

section
variable {i : Instr} {s : State}

/-- The fields an error entry leaves, outside ERROR. -/
theorem raiseFault_fields {code : ErrCode} {cause : Byte} (hs : s.st ≠ .error) :
    (raiseFault code cause s).st = .error ∧ (raiseFault code cause s).err = code
      ∧ (raiseFault code cause s).cause = cause := by
  rw [raiseFault_of_not_error hs]
  exact ⟨rfl, rfl, rfl⟩

/-- A command that leads into ERROR, with the code and cause it leaves. -/
theorem origin_of_effect (hs : s.st ≠ .error) (h : (effect i s).st = .error) :
    (i = .failinv ∧ (effect i s).err = .invalidInput ∧ (effect i s).cause = 0#8)
      ∨ (∃ code, i = .failio code ∧ (effect i s).err = .ioFailure ∧ (effect i s).cause = code)
      ∨ ((i = .fin ∨ ∃ b, i = .upd b) ∧ (s.st = .idle ∨ s.st = .done)
        ∧ (effect i s).err = .sequence ∧ (effect i s).cause = 0#8) := by
  rw [effect_st] at h
  cases i with
  | failinv => exact .inl ⟨rfl, (raiseFault_fields hs).2⟩
  | failio code => exact .inr (.inl ⟨code, rfl, (raiseFault_fields hs).2⟩)
  | fin | upd b => cases hst : s.st <;> simp_all [effect]
  | init => contradiction
  | _ => exact absurd h hs

end

/-- Settles O38: a word is a command's, whose effect is known, or an illegal one. -/
theorem errorOrigins : Obligations.ErrorOrigins := by
  unfold Obligations.ErrorOrigins
  intro s t c rest he hs h
  replace hs : ({ s with events := rest } : State).st ≠ .error := hs
  cases hc : decode c with
  | illegal why =>
    have hlegal := not_legal_of_decode hc
    rw [step_of_not_legal hlegal he] at h
    obtain rfl := Host.Outcome.next.inj h
    obtain ⟨hst, herr, hcause⟩ := raiseFault_fields (code := .illegal) (cause := 0#8) hs
    have noCommand : ∀ i, c ≠ encode i := by
      rintro i rfl
      simp at hc
    simp only [noCommand]
    exact ⟨fun _ => .inr (.inr (.inr ⟨hlegal, herr, hcause⟩)), nofun, nofun, by simp, fun _ => ⟨hst, herr⟩⟩
  | command i =>
    obtain rfl := encode_of_decode hc
    rw [step_of_encode he] at h
    obtain rfl := eq_respond_of_exec h
    simp only [encode_injective.eq_iff, legal_encode]
    refine ⟨fun ht => ?origin, ?failinv, ?failio, fun hi hst => ?sequence, nofun⟩
    case origin =>
      obtain hinv | hio | hseq := origin_of_effect hs ht
      · exact .inl hinv
      · exact .inr (.inl hio)
      · exact .inr (.inr (.inl hseq))
    case failinv =>
      rintro rfl
      obtain ⟨hst, herr, -⟩ := raiseFault_fields (code := .invalidInput) (cause := 0#8) hs
      exact ⟨hst, herr⟩
    case failio =>
      rintro code rfl
      exact raiseFault_fields hs
    case sequence =>
      obtain ⟨hst', herr, -⟩ := raiseFault_fields (code := .sequence) (cause := 0#8) hs
      rw [effect_of_sequence hi (by obtain hst | hst := hst <;> simp [hst])]
      exact ⟨hst', herr⟩

end Sys2Proof.Machine

/-! The register is hidden outside DONE (10_state.md R28, 93_implementation_defined.md S6): a step commutes with putting
another value into it, up to the two events that write it from nothing. -/

namespace Sys2Proof.Machine

section
variable (r : Word × Word) (s : State)

@[simp] theorem respond_setRegister (ok : Bool) (data : Word) :
    respond ok data (setRegister r s) = setRegister r (respond ok data s) := rfl

@[simp] theorem raiseFault_setRegister (code : ErrCode) (cause : Byte) :
    raiseFault code cause (setRegister r s) = setRegister r (raiseFault code cause s) := by
  unfold raiseFault
  rw [setRegister_st]
  cases s.st <;> rfl

@[simp] theorem okBit_setRegister (i : Instr) : okBit i (setRegister r s) = okBit i s := by
  cases i <;> rfl

end

section
variable {s t : State} {r : Word × Word}

theorem dataWord_setRegister (i : Instr) (hs : s.st ≠ .done) : dataWord i (setRegister r s) = dataWord i s := by
  cases i with
  | rdhi | rdlo | rdhex => simp [dataWord, hs]
  | _ => rfl

theorem effect_setRegister {i : Instr} (hs : s.st ≠ .active) (hi : i ≠ .init) :
    effect i (setRegister r s) = setRegister r (effect i s) := by
  cases i with
  | init => contradiction
  | upd | fin => simp [effect, hs]
  | failio | failinv => exact raiseFault_setRegister r s _ _
  | _ => rfl

/-- The states whose register no response ever depends on again: from them it is read only after INIT has written it. -/
abbrev RegisterDead (s : State) : Prop := s.st = .idle ∨ s.st = .error

theorem RegisterDead.st_ne (hs : RegisterDead s) : s.st ≠ .active ∧ s.st ≠ .done := by
  obtain hs | hs := hs
  all_goals simp [hs]

theorem registerDead_effect {i : Instr} (hs : RegisterDead s) (hi : i ≠ .init) : RegisterDead (effect i s) := by
  rw [RegisterDead, effect_st]
  cases i with
  | init => contradiction
  | upd | fin => obtain hs | hs := hs <;> simp [hs]
  | failio | failinv => exact .inr rfl
  | _ => exact hs

/-- A word is answered alike whatever the register holds, unless the state is DONE. -/
theorem runCommand_setRegister_responses (c : CommandWord) (r : Word × Word) (hs : s.st ≠ .done) :
    ∃ t t', runCommand c s = .next t ∧ runCommand c (setRegister r s) = .next t' ∧ t.responses = t'.responses := by
  cases hc : decode c with
  | command i =>
    simp only [runCommand_of_command hc, exec_eq_respond]
    refine ⟨_, _, rfl, rfl, ?_⟩
    simp [dataWord_setRegister i hs]
  | illegal why =>
    simp only [runCommand_of_illegal hc]
    exact ⟨_, _, rfl, rfl, by simp⟩

theorem step_setRegister_responses (r : Word × Word) (hs : s.st ≠ .done) :
    ∃ t t', step s = .next t ∧ step (setRegister r s) = .next t' ∧ t.responses = t'.responses := by
  cases he : s.events with
  | nil => exact ⟨_, _, step_of_no_event he, step_of_no_event he, rfl⟩
  | cons e rest =>
    have he' : (setRegister r s).events = e :: rest := he
    rw [step_of_event he, step_of_event he']
    cases e with
    | reset => exact ⟨_, _, rfl, rfl, rfl⟩
    | command c => exact runCommand_setRegister_responses c r hs

/-- The two runs either have met, or still differ in a dead register alone. -/
abbrev HiddenDifference (r : Word × Word) (s t : State) : Prop := t = s ∨ t = setRegister r s ∧ RegisterDead s

theorem runCommand_setRegister {c : CommandWord} (hs : RegisterDead s) (h : runCommand c s = .next t) :
    ∃ t', runCommand c (setRegister r s) = .next t' ∧ HiddenDifference r t t' := by
  cases hc : decode c with
  | command i =>
    rw [runCommand_of_command hc] at h ⊢
    obtain rfl := eq_respond_of_exec h
    obtain ⟨hactive, hdone⟩ := hs.st_ne
    refine ⟨_, exec_eq_respond i _, ?_⟩
    rw [okBit_setRegister, dataWord_setRegister i hdone]
    by_cases hi : i = .init
    · subst hi
      exact .inl rfl
    · rw [effect_setRegister hactive hi]
      exact .inr ⟨rfl, registerDead_effect hs hi⟩
  | illegal why =>
    rw [runCommand_of_illegal hc] at h ⊢
    obtain rfl := Host.Outcome.next.inj h
    exact ⟨_, rfl, .inr ⟨by simp, .inr (raiseFault_st _ _ s)⟩⟩

theorem step_setRegister (hs : RegisterDead s) (h : step s = .next t) :
    ∃ t', step (setRegister r s) = .next t' ∧ HiddenDifference r t t' := by
  cases he : s.events with
  | nil =>
    rw [step_of_no_event he] at h
    obtain rfl := Host.Outcome.next.inj h
    exact ⟨_, step_of_no_event he, .inr ⟨rfl, hs⟩⟩
  | cons e rest =>
    have he' : (setRegister r s).events = e :: rest := he
    rw [step_of_event he] at h
    rw [step_of_event he']
    cases e with
    | reset =>
      obtain rfl := Host.Outcome.next.inj h
      exact ⟨_, rfl, .inl rfl⟩
    | command c => exact runCommand_setRegister (s := { s with events := rest }) hs h

theorem runSteps_setRegister {n : Nat} (hs : RegisterDead s) (h : runSteps n s = .next t) :
    ∃ t', runSteps n (setRegister r s) = .next t' ∧ HiddenDifference r t t' := by
  induction n generalizing s with
  | zero =>
    obtain rfl := Host.Outcome.next.inj h
    exact ⟨_, rfl, .inr ⟨rfl, hs⟩⟩
  | succ n ih =>
    obtain ⟨u, hu⟩ := step_total s
    obtain ⟨u', hu', rfl | ⟨rfl, hdead⟩⟩ := step_setRegister (r := r) hs hu
    all_goals rw [runSteps_succ n hu] at h; rw [runSteps_succ n hu']
    · exact ⟨t, h, .inl rfl⟩
    · exact ih hdead h

theorem HiddenDifference.responses_eq (h : HiddenDifference r s t) : s.responses = t.responses := by
  obtain rfl | ⟨rfl, -⟩ := h
  all_goals rfl

end

/-- A state that agrees with another but for the register is that one with its own register put in. -/
theorem eq_setRegister {s t : State} (hstatus : SameStatus s t) (hevents : s.events = t.events)
    (hresponses : s.responses = t.responses) : t = setRegister (t.hi, t.lo) s := by
  obtain ⟨hst, herr, hcause⟩ := hstatus
  rw [setRegister, hst, herr, hcause, hevents, hresponses]

/-- Settles O45: the second state is the first with another register, which a dead register's run never shows. -/
theorem registerHiddenOutsideDone : Obligations.RegisterHiddenOutsideDone := by
  unfold Obligations.RegisterHiddenOutsideDone
  intro s t hstatus hevents hresponses
  rw [eq_setRegister hstatus hevents hresponses]
  refine ⟨fun hs => step_setRegister_responses _ hs, fun hs n => ?_⟩
  obtain ⟨u, hu⟩ := runSteps_total n s
  obtain ⟨u', hu', hdiff⟩ := runSteps_setRegister hs hu
  exact ⟨u, u', hu, hu', hdiff.responses_eq⟩

end Sys2Proof.Machine

/-! The shift, the tables and the update as maps of one 64-bit value, linear over XOR (40_shift_register.md,
41_checksum.md R86, R87, R91 to R97). -/

namespace Sys2Proof.Machine

/-! ## The shift on 64 bits (40_shift_register.md R68, R69) -/

theorem bit32Msb_getLsbD (n : Nat) : bit32Msb.getLsbD n = decide (n = 31) := by
  by_cases h : n < 32
  · revert n
    decide
  · rw [BitVec.getLsbD_of_ge _ _ (by omega)]
    exact (decide_eq_false (by omega)).symm

/-- A one-bit shift of the halves: the low bit of HI enters at the top of LO. -/
theorem reg64_ushiftRight_one (hi lo : Word) :
    reg64 hi lo >>> 1 = reg64 (hi >>> 1) (if hi.getLsbD 0 then (lo >>> 1) ^^^ bit32Msb else lo >>> 1) := by
  have hlow : ∀ n, (if hi.getLsbD 0 then (lo >>> 1) ^^^ bit32Msb else lo >>> 1).getLsbD n
      = (lo.getLsbD (1 + n) ^^ (hi.getLsbD 0 && decide (n = 31))) := fun n => by
    cases hi.getLsbD 0 <;> simp [bit32Msb_getLsbD]
  ext i h
  simp only [← BitVec.getLsbD_eq_getElem, BitVec.getLsbD_ushiftRight, reg64_getLsbD, hlow]
  by_cases h31 : i < 31
  · simp [show 1 + i < 32 by omega, show i < 32 by omega, show i ≠ 31 by omega]
  by_cases h32 : i < 32
  · obtain rfl : i = 31 := by omega
    simp
  · simp [h32, show ¬ 1 + i < 32 by omega, show 1 + i - 32 = 1 + (i - 32) by omega]

theorem polyLong_eq : 0xD800000000000000#64 = reg64 polyReversedHigh 0#32 := by decide

theorem reg64_shift1 (hi lo : Word) :
    reg64 (shift1 (hi, lo)).1 (shift1 (hi, lo)).2 = shift1Long (reg64 hi lo) := by
  have hcarry : (reg64 hi lo).getLsbD 0 = lo.getLsbD 0 := reg64_getLsbD hi lo 0
  rw [shift1Long, hcarry, reg64_ushiftRight_one, polyLong_eq, ← reg64_xor, BitVec.xor_zero, shift1]
  split <;> rfl

theorem shift1_eq (r : Word × Word) : shift1 r = halves (shift1Long (reg64 r.1 r.2)) := by
  rw [← reg64_shift1, halves_reg64]

/-- Settles O47: the 64-bit view of the shift is the shift of the 64-bit view. -/
theorem splitShiftIsLongShift : Obligations.SplitShiftIsLongShift := by
  unfold Obligations.SplitShiftIsLongShift
  exact fun hi lo => shift1_eq (hi, lo)

theorem iterate_shift1 (n : Nat) (x : Long) : iterate shift1 n (halves x) = halves (iterate shift1Long n x) := by
  induction n generalizing x with
  | zero => rfl
  | succ n ih => rw [iterate_succ, iterate_succ, shift1_eq, reg64_halves, ih]

/-! ## Linearity over XOR (40_shift_register.md R75) -/

theorem xor_eq_xor_of_cancel {w : Nat} (x y p : BitVec w) : x ^^^ y = (x ^^^ p) ^^^ (y ^^^ p) := by
  have hcancel : x ^^^ y = (x ^^^ y) ^^^ (p ^^^ p) := by rw [BitVec.xor_self, BitVec.xor_zero]
  rw [hcancel]
  ac_rfl

theorem shift1Long_xor (x y : Long) : shift1Long (x ^^^ y) = shift1Long x ^^^ shift1Long y := by
  unfold shift1Long
  rw [BitVec.getLsbD_xor, BitVec.ushiftRight_xor_distrib]
  cases x.getLsbD 0 <;> cases y.getLsbD 0
  · rfl
  · exact BitVec.xor_assoc _ _ _
  · show (x >>> 1 ^^^ y >>> 1) ^^^ _ = (x >>> 1 ^^^ _) ^^^ y >>> 1
    ac_rfl
  · exact xor_eq_xor_of_cancel _ _ _

theorem iterate_shift1Long_xor (n : Nat) (x y : Long) :
    iterate shift1Long n (x ^^^ y) = iterate shift1Long n x ^^^ iterate shift1Long n y := by
  induction n generalizing x y with
  | zero => rfl
  | succ n ih => rw [iterate_succ, shift1Long_xor, ih, ← iterate_succ, ← iterate_succ]

/-- The table of 64-bit entries, from the 64-bit shift alone (40_shift_register.md R71). -/
theorem tableLong_eq_iterate (i : Byte) : tableLong i = iterate shift1Long 8 (i.setWidth 64) := by
  have hstart : (0#32, i.setWidth 32) = halves (i.setWidth 64) := by
    rw [halves, ← BitVec.setWidth_eq_extractLsb' (by decide), BitVec.setWidth_setWidth_of_le i (by decide)]
    congr 1
    ext j hj
    simp [BitVec.getLsbD_of_ge i (32 + j) (by omega)]
  have hentry : tableEntry i = halves (iterate shift1Long 8 (i.setWidth 64)) := by
    rw [tableEntry, hstart, iterate_shift1]
  rw [tableLong, tableHigh, tableLow, hentry]
  exact reg64_halves _

theorem tableLong_xor (i j : Byte) : tableLong (i ^^^ j) = tableLong i ^^^ tableLong j := by
  simp only [tableLong_eq_iterate, BitVec.setWidth_xor, iterate_shift1Long_xor]

theorem halves_tableLong (i : Byte) : halves (tableLong i) = (tableHigh i, tableLow i) := halves_reg64 _ _

theorem halves_xor (x y : Long) :
    halves (x ^^^ y) = ((halves x).1 ^^^ (halves y).1, (halves x).2 ^^^ (halves y).2) := by
  rw [halves, BitVec.extractLsb'_xor, BitVec.extractLsb'_xor]
  rfl

/-- Settles O51: the 64-bit entries are linear, and the tables are their halves. -/
theorem tablesAreLinear : Obligations.TablesAreLinear := by
  unfold Obligations.TablesAreLinear
  intro i j
  have h : halves (tableLong (i ^^^ j)) = halves (tableLong i ^^^ tableLong j) := congrArg halves (tableLong_xor i j)
  simpa only [halves_xor, halves_tableLong, Prod.mk.injEq] using h

/-! ## The update (41_checksum.md R86, R87) -/

theorem update_eq (r : Word × Word) (b : Byte) : update r b = halves (updateLong (reg64 r.1 r.2) b) := by
  rw [← reg64_update, halves_reg64]

/-- Settles O52: the 64-bit view of the update is UPDATE_64. -/
theorem updateIsLongUpdate : Obligations.UpdateIsLongUpdate := by
  unfold Obligations.UpdateIsLongUpdate
  exact fun hi lo b => update_eq (hi, lo) b

/-- `n` shifts that carry nothing out are one shift by `n`. -/
theorem iterate_shift1Long_of_clear {n : Nat} {x : Long} (h : ∀ j < n, x.getLsbD j = false) :
    iterate shift1Long n x = x >>> n := by
  induction n generalizing x with
  | zero => exact (BitVec.ushiftRight_zero x).symm
  | succ n ih =>
    have hshift : shift1Long x = x >>> 1 := if_neg (by rw [h 0 (by omega)]; decide)
    rw [iterate_succ, hshift, ih, ← BitVec.shiftRight_add, Nat.add_comm 1 n]
    intro j hj
    rw [BitVec.getLsbD_ushiftRight]
    exact h (1 + j) (by omega)

theorem byte_ushiftRight_eight (b : Byte) : b.setWidth 64 >>> 8 = 0#64 := by
  ext i h
  simp

/-- Eight shifts, split into the low byte, which the table holds, and the bits above it. -/
theorem iterate_shift1Long_eight (x : Long) : iterate shift1Long 8 x = (x >>> 8) ^^^ tableLong (x.setWidth 8) := by
  let low : Long := (x.setWidth 8).setWidth 64
  have hclear : ∀ j < 8, (x ^^^ low).getLsbD j = false := fun j hj => by
    simp [low, hj, show j < 64 by omega]
  calc iterate shift1Long 8 x
    _ = iterate shift1Long 8 ((x ^^^ low) ^^^ low) := by rw [BitVec.xor_assoc, BitVec.xor_self, BitVec.xor_zero]
    _ = ((x ^^^ low) >>> 8) ^^^ tableLong (x.setWidth 8) := by
      rw [iterate_shift1Long_xor, iterate_shift1Long_of_clear hclear, ← tableLong_eq_iterate]
    _ = (x >>> 8) ^^^ tableLong (x.setWidth 8) := by
      rw [BitVec.ushiftRight_xor_distrib, byte_ushiftRight_eight, BitVec.xor_zero]

theorem updateLong_eq_iterate (x : Long) (b : Byte) : updateLong x b = iterate shift1Long 8 (x ^^^ b.setWidth 64) := by
  rw [iterate_shift1Long_eight, BitVec.ushiftRight_xor_distrib, byte_ushiftRight_eight, BitVec.xor_zero,
    BitVec.setWidth_xor, BitVec.setWidth_setWidth_of_le b (by decide), BitVec.setWidth_eq, updateLong]

/-- Settles O53: the byte is XORed into the low bits, and eight shifts are one table lookup. -/
theorem updateIsBitSerial : Obligations.UpdateIsBitSerial := by
  unfold Obligations.UpdateIsBitSerial
  exact updateLong_eq_iterate

theorem updateLong_xor (x y : Long) (b c : Byte) :
    updateLong (x ^^^ y) (b ^^^ c) = updateLong x b ^^^ updateLong y c := by
  have hregroup : (x ^^^ y) ^^^ (b ^^^ c).setWidth 64 = (x ^^^ b.setWidth 64) ^^^ (y ^^^ c.setWidth 64) := by
    rw [BitVec.setWidth_xor]
    ac_rfl
  simp only [updateLong_eq_iterate, hregroup, iterate_shift1Long_xor]

/-! ## The fold (41_checksum.md R91 to R97) -/

theorem update_xor (h₁ l₁ h₂ l₂ : Word) (b c : Byte) :
    update (h₁ ^^^ h₂, l₁ ^^^ l₂) (b ^^^ c)
      = ((update (h₁, l₁) b).1 ^^^ (update (h₂, l₂) c).1, (update (h₁, l₁) b).2 ^^^ (update (h₂, l₂) c).2) := by
  simp only [update_eq, reg64_xor, updateLong_xor, halves_xor]

theorem fold_xor (h₁ l₁ h₂ l₂ : Word) {s t : List Byte} (h : s.length = t.length) :
    fold (h₁ ^^^ h₂, l₁ ^^^ l₂) (List.zipWith (· ^^^ ·) s t)
      = ((fold (h₁, l₁) s).1 ^^^ (fold (h₂, l₂) t).1, (fold (h₁, l₁) s).2 ^^^ (fold (h₂, l₂) t).2) := by
  induction s generalizing t h₁ l₁ h₂ l₂ with
  | nil =>
    obtain rfl := List.length_eq_zero_iff.mp h.symm
    rfl
  | cons b s ih =>
    cases t with
    | nil => contradiction
    | cons c t =>
      rw [List.zipWith_cons_cons, fold_cons, fold_cons, fold_cons, update_xor]
      exact ih _ _ _ _ (Nat.succ.inj h)

theorem fold_zeros (n : Nat) : fold (0#32, 0#32) (List.replicate n 0#8) = (0#32, 0#32) := by
  induction n with
  | zero => rfl
  | succ n ih => rw [List.replicate_succ, fold_cons, update_zero, ih]

/-- Settles O54: one update is linear, and the zero register is a fixed point of the zero byte. -/
theorem foldIsLinear : Obligations.FoldIsLinear := by
  unfold Obligations.FoldIsLinear
  exact ⟨fun h₁ l₁ h₂ l₂ _ _ => fold_xor h₁ l₁ h₂ l₂, fold_zeros⟩

theorem fold_append (r : Word × Word) (s t : List Byte) : fold r (s ++ t) = fold (fold r s) t := by
  induction s generalizing r with
  | nil => rfl
  | cons b s ih => exact ih (update r b)

/-! ## The contents of the tables (40_shift_register.md R73, section 5) -/

/-- Settles O50: the bits of HI that the eight shifts leave clear, and the empty LO. -/
theorem tableLowBitsZero : Obligations.TableLowBitsZero := by
  unfold Obligations.TableLowBitsZero
  intro i
  obtain ⟨hclear, -⟩ := tableEntry_clear i
  refine ⟨tableLow_eq_zero i, ?_⟩
  ext j hj
  simpa [tableHigh] using hclear j hj

/-- The listing is the construction, entry for entry: eight shifts for each of the 256 indexes. -/
theorem tableHighListing_eq : tableHighListing = (List.range 256).map fun n => tableHigh (BitVec.ofNat 8 n) := by
  decide +kernel

/-- Settles O48: the listing is the construction's, and an index is its own number below 256. -/
theorem tablesAreAsListed : Obligations.TablesAreAsListed := by
  unfold Obligations.TablesAreAsListed
  refine ⟨by simp [tableHighListing_eq], fun i => ⟨?_, tableLow_eq_zero i⟩⟩
  rw [tableHighListing_eq, List.getElem?_map, List.getElem?_range i.isLt, Option.map_some, BitVec.ofNat_toNat,
    BitVec.setWidth_eq]

end Sys2Proof.Machine

/-! Whole computations: commands one after another in an open computation, COMPUTE and RESULT from any state, and many
instances side by side (41_checksum.md section 3, 30_encoding.md section 5, 20_memory.md R45). -/

namespace Sys2Proof.Machine

/-! ## Commands in an open computation (41_checksum.md R92, R93) -/

/-- The byte a command folds. -/
def foldedByte : Instr → Option Byte
  | .upd b => some b
  | _ => none

/-- The commands that an open computation may meet and stay open. -/
abbrev KeepsOpen (i : Instr) : Prop := i ∈ [.nop, .rdst] ∨ ∃ b, i = .upd b ∨ i = .rdth b ∨ i = .rdtl b

section
variable {s t u : State}

theorem transact_eq_respond (i : Instr) (s : State) :
    transact i s = some (⟨okBit i s, dataWord i s⟩, respond (okBit i s) (dataWord i s) (effect i s)) :=
  transact_of_exec (exec_eq_respond i s)

/-- A command of an open computation keeps it open and folds its byte, if it has one. -/
theorem effect_of_keepsOpen {i : Instr} (hi : KeepsOpen i) (hs : s.st = .active) :
    (effect i s).st = .active
      ∧ ((effect i s).hi, (effect i s).lo) = fold (s.hi, s.lo) (foldedByte i).toList := by
  cases i with
  | upd b =>
    rw [effect_upd_of_active b hs]
    exact ⟨hs, rfl⟩
  | nop | rdst | rdth | rdtl => exact ⟨hs, rfl⟩
  | _ => simp [KeepsOpen] at hi

theorem transactAll_keepsOpen {cs : List Instr} (hcs : ∀ i ∈ cs, KeepsOpen i) (hs : s.st = .active) :
    ∃ rs t, transactAll cs s = some (rs, t) ∧ t.st = .active
      ∧ (t.hi, t.lo) = fold (s.hi, s.lo) (cs.filterMap foldedByte) := by
  induction cs generalizing s with
  | nil => exact ⟨[], s, rfl, hs, rfl⟩
  | cons i cs ih =>
    obtain ⟨hi, hrest⟩ := List.forall_mem_cons.mp hcs
    obtain ⟨hst, hreg⟩ := effect_of_keepsOpen hi hs
    obtain ⟨rs, t, htail, ht, hfold⟩ := ih (s := respond (okBit i s) (dataWord i s) (effect i s)) hrest hst
    refine ⟨_, t, transactAll_cons (transact_eq_respond i s) htail, ht, ?_⟩
    rw [respond_hi, respond_lo, hreg, ← fold_append] at hfold
    rw [hfold]
    cases hb : foldedByte i <;> simp [hb]

end

/-- Settles O55: the fold goes byte by byte, and so does the computation. -/
theorem chunkedFold : Obligations.ChunkedFold := by
  unfold Obligations.ChunkedFold
  exact ⟨fold_append, fun cs s hs hcs => transactAll_keepsOpen hcs hs⟩

section
variable {s t u : State}

/-- The steps of UPD and FIN in an open computation. -/
theorem runSteps_upds_fin (bytes : List Byte) {rest : List HostEvent} (hs : s.st = .active)
    (he : s.events = (bytes.map Instr.upd ++ [Instr.fin]).map (fun i => .command (encode i)) ++ rest) :
    runSteps (bytes.length + 1) s = .next { s with
      hi := (fold (s.hi, s.lo) bytes).1, lo := (fold (s.hi, s.lo) bytes).2, st := .done, events := rest,
      responses := s.responses ++ List.replicate (bytes.length + 1) ⟨true, 0#32⟩ } := by
  induction bytes generalizing s with
  | nil =>
    exact runSteps_succ 0 ((step_of_encode he).trans (exec_fin_of_active hs))
  | cons b bytes ih =>
    have hstep := (step_of_encode (i := .upd b) he).trans (exec_upd_of_active b hs)
    rw [List.length_cons, runSteps_succ _ hstep]
    refine (ih ?active ?events).trans ?_
    case active => exact hs
    case events => rfl
    simp [respond, setRegister, fold_cons, List.replicate_succ]

end

/-- Settles O56: INIT opens the computation in any state, with the zero register. -/
theorem computationLeavesFold : Obligations.ComputationLeavesFold := by
  unfold Obligations.ComputationLeavesFold
  intro s bytes rest he
  have hstep : step s = exec .init _ := step_of_encode he
  rw [exec_eq_respond] at hstep
  rw [runSteps_succ _ hstep, runSteps_upds_fin bytes rfl rfl]
  simp [respond, effect, openComputation, okBit, dataWord, List.replicate_succ]

/-! ## COMPUTE and RESULT (30_encoding.md R62, R63; 60_exceptions.md R128) -/

section
variable {s t u : State}

theorem transactAll_append {is js : List Instr} {rs qs : List Response} (h : transactAll is s = some (rs, t))
    (h' : transactAll js t = some (qs, u)) : transactAll (is ++ js) s = some (rs ++ qs, u) := by
  induction is generalizing s rs with
  | nil =>
    obtain ⟨rfl, rfl⟩ := Prod.mk.inj (Option.some.inj h)
    exact h'
  | cons i is ih =>
    obtain ⟨r, v, hhead⟩ : ∃ r v, transact i s = some (r, v) := ⟨_, _, transact_eq_respond i s⟩
    cases htail : transactAll is v with
    | none => simp [transactAll, hhead, htail] at h
    | some p =>
      obtain ⟨ps, w⟩ := p
      rw [transactAll_cons hhead htail] at h
      obtain ⟨rfl, rfl⟩ := Prod.mk.inj (Option.some.inj h)
      exact transactAll_cons hhead (ih htail)

theorem transactAll_singleton (i : Instr) (s : State) :
    transactAll [i] s = some ([⟨okBit i s, dataWord i s⟩], respond (okBit i s) (dataWord i s) (effect i s)) :=
  transactAll_cons (transact_eq_respond i s) rfl

/-- COMPUTE's commands up to the last: the computation is open and holds the bytes read so far. -/
theorem transactAll_init_upds (bytes : List Byte) (s : State) :
    ∃ rs t, transactAll (.init :: bytes.map .upd) s = some (rs, t) ∧ t.st = .active
      ∧ (t.hi, t.lo) = fold (0#32, 0#32) bytes := by
  have hcs : ∀ i ∈ bytes.map Instr.upd, KeepsOpen i := fun i hi => by
    obtain ⟨b, -, rfl⟩ := List.mem_map.mp hi
    exact .inr ⟨b, .inl rfl⟩
  obtain ⟨rs, t, hrun, hst, hfold⟩ := transactAll_keepsOpen (s := respond true 0#32 (openComputation s)) hcs rfl
  have hbytes : (bytes.map Instr.upd).filterMap foldedByte = bytes := by
    simp [List.filterMap_map, Function.comp_def, foldedByte]
  rw [hbytes] at hfold
  exact ⟨_, t, transactAll_cons (transact_eq_respond .init s) hrun, hst, hfold⟩

theorem computeAndRead_of_transactAll (src : Source) {rs : List Response}
    (h : transactAll (computeCommands src) s = some (rs, t)) : computeAndRead src s = resultCommand t := by
  rw [computeAndRead, h]

/-- A source that ends leaves DONE and the fold of its bytes. -/
theorem transactAll_ending (bytes : List Byte) (s : State) :
    ∃ rs t, transactAll (.init :: (bytes.map .upd ++ [.fin])) s = some (rs, t) ∧ t.st = .done
      ∧ (t.hi, t.lo) = fold (0#32, 0#32) bytes := by
  obtain ⟨rs, t, hrun, hst, hfold⟩ := transactAll_init_upds bytes s
  refine ⟨_, _, transactAll_append hrun (transactAll_singleton .fin t), ?_⟩
  rw [effect_fin_of_active hst]
  exact ⟨rfl, hfold⟩

/-- A source that fails, after any number of bytes, leaves ERROR with the fault its last command reports. -/
theorem transactAll_failing {report : Instr} {code : ErrCode} {cause : Byte}
    (hreport : ∀ s, effect report s = raiseFault code cause s) (bytes : List Byte) (s : State) :
    ∃ rs t, transactAll (.init :: (bytes.map .upd ++ [report])) s = some (rs, t)
      ∧ t.st = .error ∧ t.err = code ∧ t.cause = cause := by
  obtain ⟨rs, t, hrun, hst, -⟩ := transactAll_init_upds bytes s
  refine ⟨_, _, transactAll_append hrun (transactAll_singleton report t), ?_⟩
  rw [hreport]
  exact raiseFault_fields (by simp [hst])

/-- What RESULT makes of a failed computation. -/
theorem resultCommand_of_fault (hst : s.st = .error) :
    ∃ t, Ended t
      ∧ (s.err = .invalidInput → resultCommand s = some (.err .invalidInput, t))
      ∧ (s.err = .ioFailure → resultCommand s = some (.err (.ioFailure (Config.causeMap s.cause)), t)) := by
  obtain ⟨t, ⟨-, -, hsame, -⟩, -, hinvalid, hio, -⟩ := resultOfEachState s
  exact ⟨t, .inr (hsame.symm.trans hst), hinvalid hst, hio hst⟩

end

/-- Settles O58: COMPUTE leaves DONE with the fold or ERROR with the fault, and RESULT reads it. -/
theorem computeAndReadOutcome : Obligations.ComputeAndReadOutcome := by
  unfold Obligations.ComputeAndReadOutcome
  intro src s
  cases src with
  | ending bytes =>
    obtain ⟨rs, t, hrun, hst, hfold⟩ := transactAll_ending bytes s
    obtain ⟨u, ⟨-, -, hsame, -⟩, hresult⟩ := resultCommand_of_done hst
    have hformat : format t.hi t.lo = format (fold (0#32, 0#32) bytes).1 (fold (0#32, 0#32) bytes).2 := by
      rw [← hfold]
    rw [hformat] at hresult
    exact ⟨u, (computeAndRead_of_transactAll (.ending bytes) hrun).trans hresult, .inl (hsame.symm.trans hst)⟩
  | absent =>
    obtain ⟨rs, t, hrun, hst, herr, -⟩ := transactAll_failing (report := .failinv) (fun _ => rfl) [] s
    obtain ⟨u, hended, hinvalid, -⟩ := resultCommand_of_fault hst
    exact ⟨u, (computeAndRead_of_transactAll .absent hrun).trans (hinvalid herr), hended⟩
  | unopenable code =>
    obtain ⟨rs, t, hrun, hst, herr, rfl⟩ := transactAll_failing (report := .failio code) (fun _ => rfl) [] s
    obtain ⟨u, hended, -, hio⟩ := resultCommand_of_fault hst
    exact ⟨u, (computeAndRead_of_transactAll (.unopenable _) hrun).trans (hio herr), hended⟩
  | failing bytes code =>
    obtain ⟨rs, t, hrun, hst, herr, rfl⟩ := transactAll_failing (report := .failio code) (fun _ => rfl) bytes s
    obtain ⟨u, hended, -, hio⟩ := resultCommand_of_fault hst
    exact ⟨u, (computeAndRead_of_transactAll (.failing bytes _) hrun).trans (hio herr), hended⟩

/-! ## Many instances (20_memory.md R45, 60_exceptions.md R134) -/

section
variable {sys sys' : System} {s t : State}

/-- An event of the system reaches each instance as that instance's own event, if it has one. -/
abbrev ReachesAlone (e : SystemEvent) (sys sys' : System) : Prop :=
  sys'.length = sys.length
    ∧ ∀ k s, sys[k]? = some s → ∃ t, sys'[k]? = some t ∧ reactAll (eventFor k e).toList s = .next t

theorem reactAll_singleton {e : HostEvent} (h : react e s = .next t) : reactAll [e] s = .next t := by
  rw [reactAll, h]
  rfl

theorem reactAll_append {es fs : List HostEvent} (h : reactAll es s = .next t) :
    reactAll (es ++ fs) s = reactAll fs t := by
  induction es generalizing s with
  | nil =>
    obtain rfl := Host.Outcome.next.inj h
    rfl
  | cons e es ih =>
    obtain ⟨u, hu⟩ := react_total e s
    rw [reactAll, hu] at h
    rw [List.cons_append, reactAll, hu]
    exact ih h

theorem System.react_command {j : Nat} {word : CommandWord} (hs : sys[j]? = some s) (ht : runCommand word s = .next t) :
    System.react (.command j word) sys = .next (sys.set j t) := by
  rw [System.react, hs]
  simp only [ht]

theorem System.react_total {e : SystemEvent} (h : ∀ k word, e = .command k word → k < sys.length) :
    ∃ sys', System.react e sys = .next sys' := by
  cases e with
  | reset => exact ⟨_, System.react_reset sys⟩
  | command j word =>
    have hj : j < sys.length := h j word rfl
    obtain ⟨t, ht⟩ := runCommand_total word sys[j]
    exact ⟨_, System.react_command (List.getElem?_eq_getElem hj) ht⟩

/-- A command the system answers is addressed to one of its instances, and replaces that one. -/
theorem System.react_command_cases {j : Nat} {word : CommandWord}
    (h : System.react (.command j word) sys = .next sys') :
    ∃ s t, sys[j]? = some s ∧ runCommand word s = .next t ∧ sys' = sys.set j t := by
  cases hs : sys[j]? with
  | none =>
    rw [System.react, hs] at h
    contradiction
  | some s =>
    obtain ⟨t, ht⟩ := runCommand_total word s
    exact ⟨s, t, rfl, ht, Host.Outcome.next.inj (h.symm.trans (System.react_command hs ht))⟩

theorem System.react_reachesAlone {e : SystemEvent} (h : System.react e sys = .next sys') :
    ReachesAlone e sys sys' := by
  cases e with
  | reset =>
    obtain rfl := Host.Outcome.next.inj ((System.react_reset sys).symm.trans h)
    exact ⟨List.length_map _, fun k s hs => ⟨resetBlock s, by rw [List.getElem?_map, hs]; rfl, rfl⟩⟩
  | command j word =>
    obtain ⟨u, t, hu, ht, rfl⟩ := System.react_command_cases h
    refine ⟨List.length_set, fun k s hs => ?_⟩
    by_cases hjk : j = k
    · subst hjk
      obtain rfl := Option.some.inj (hs.symm.trans hu)
      obtain ⟨hlt, -⟩ := List.getElem?_eq_some_iff.mp hs
      refine ⟨t, List.getElem?_set_self hlt, ?_⟩
      rw [eventFor, if_pos rfl]
      exact reactAll_singleton ht
    · refine ⟨s, by rw [List.getElem?_set_ne hjk, hs], ?_⟩
      rw [eventFor, if_neg hjk]
      rfl

theorem System.run_cons {e : SystemEvent} {es : List SystemEvent} (h : System.react e sys = .next sys') :
    System.run (e :: es) sys = System.run es sys' := by
  rw [System.run, h]

theorem System.react_of_run {e : SystemEvent} {es : List SystemEvent} {final : System}
    (h : System.run (e :: es) sys = .next final) :
    ∃ sys', System.react e sys = .next sys' ∧ System.run es sys' = .next final := by
  cases hreact : System.react e sys with
  | next sys' => exact ⟨sys', rfl, (System.run_cons hreact).symm.trans h⟩
  | fault r | refused r =>
    rw [System.run, hreact] at h
    contradiction

theorem filterMap_eventFor_cons (k : Nat) (e : SystemEvent) (es : List SystemEvent) :
    (e :: es).filterMap (eventFor k) = (eventFor k e).toList ++ es.filterMap (eventFor k) := by
  cases he : eventFor k e <;> simp [he]

theorem System.run_reachesAlone {es : List SystemEvent} (h : System.run es sys = .next sys') :
    sys'.length = sys.length
      ∧ ∀ k s, sys[k]? = some s →
        ∃ t, sys'[k]? = some t ∧ reactAll (es.filterMap (eventFor k)) s = .next t := by
  induction es generalizing sys with
  | nil =>
    obtain rfl := Host.Outcome.next.inj h
    exact ⟨rfl, fun k s hs => ⟨s, hs, rfl⟩⟩
  | cons e es ih =>
    obtain ⟨mid, hreact, hrun⟩ := System.react_of_run h
    obtain ⟨hlength, halone⟩ := System.react_reachesAlone hreact
    obtain ⟨hlength', halone'⟩ := ih hrun
    refine ⟨hlength'.trans hlength, fun k s hs => ?_⟩
    obtain ⟨u, hu, hhead⟩ := halone k s hs
    obtain ⟨t, ht, htail⟩ := halone' k u hu
    refine ⟨t, ht, ?_⟩
    rw [filterMap_eventFor_cons, reactAll_append hhead, htail]

theorem System.run_total {es : List SystemEvent}
    (h : ∀ k word, SystemEvent.command k word ∈ es → k < sys.length) : ∃ sys', System.run es sys = .next sys' := by
  induction es generalizing sys with
  | nil => exact ⟨sys, rfl⟩
  | cons e es ih =>
    obtain ⟨mid, hreact⟩ := System.react_total (sys := sys) (e := e) fun k word he => h k word (he ▸ List.mem_cons_self)
    obtain ⟨hlength, -⟩ := System.react_reachesAlone hreact
    rw [System.run_cons hreact]
    exact ih fun k word hmem => hlength ▸ h k word (List.mem_cons_of_mem e hmem)

end

/-- Settles O59: one event reaches each instance alone, and so does a sequence of them. -/
theorem instancesAreIndependent : Obligations.InstancesAreIndependent := by
  unfold Obligations.InstancesAreIndependent
  exact ⟨fun _ _ _ => System.run_reachesAlone, fun _ _ => System.run_total⟩

end Sys2Proof.Machine
